-- ==== Sys2Proof/Word.lean ====
section
/-! DEFINITION. The word types of the block: 64-bit words (DATA, RESULT, draws, delay-line words, keys), 32-bit
command words and 8-bit bytes (00_scope.md R10, R19; 30_encoding.md R110). -/

namespace Sys2Proof

/-- A 64-bit word: DATA, RESULT, a drawn word, a delay-line word, a key (00_scope.md R19). -/
abbrev Word := BitVec 64

/-- A 32-bit command word (30_encoding.md R110). -/
abbrev CmdWord := BitVec 32

/-- A byte: an opcode, a status code, an image byte (00_scope.md R8 `IMG_W`). -/
abbrev Byte := BitVec 8

end Sys2Proof
end

