-- ==== Sys2Proof/Syntax.lean ====
section
/-! DEFINITION. The instructions: the 53 commands of 30_encoding.md R117, one constructor of `Instr` per row of
spec/opcode_table.json, in the table's order; and the command as the host presents it (30_encoding.md R110). -/

namespace Sys2Proof

/-- b0..b7: an index into the BigUInt register file (30_encoding.md R116(a)). -/
abbrev BReg := Fin 8

/-- p0..p7: an index into the permutation register file (30_encoding.md R116(b)). -/
abbrev PReg := Fin 8

/-- pt0, pt1: a power-table unit (30_encoding.md R116(c)). -/
abbrev PtUnit := Fin 2

/-- A command as transferred on the command channel: the command word and its DATA word (30_encoding.md R110). -/
structure Command where
  word : CmdWord
  data : Word
deriving DecidableEq, Repr

/-- The opcodes of 30_encoding.md R117. -/
inductive Opcode where
  | ctlNop
  | ctlRdcsr
  | ctlClrerr
  | ctlSreset
  | bigLdi
  | bigLdlimb
  | bigHexin
  | bigMov
  | bigAdd
  | bigSub
  | bigMul
  | bigDiv
  | bigRem
  | bigShl
  | bigShr
  | bigAnd
  | bigOr
  | bigCmp
  | bigBitcnt
  | bigTrunc32
  | bigTrunc64
  | bigGetlimb
  | bigNlimbs
  | bigHexlen
  | bigHexdig
  | permId
  | permFromrank
  | permRank
  | permLdimg
  | permFromimg
  | permGetimg
  | permSize
  | permMov
  | permMul
  | permIsid
  | permEq
  | permShuf
  | permShufodd
  | permSharefix
  | ptInit
  | ptOrder
  | ptFetch
  | ptMulpow
  | landau
  | engGena
  | engGenb
  | engSeedr
  | engSeedu
  | engStep
  | engRand
  | engMix
  | engGetp
  | engGetd
deriving DecidableEq, Repr

/-- A decoded command: its operand fields in the order of 30_encoding.md R117's "operands" column, and the DATA word
where the opcode uses it (30_encoding.md R113). `imm` is the unsigned IMM field (30_encoding.md R112). -/
inductive Instr where
  /-- CTL_NOP (44_control.md R330). -/
  | ctlNop
  /-- CTL_RDCSR (44_control.md R331). -/
  | ctlRdcsr (imm : Nat)
  /-- CTL_CLRERR (44_control.md R332). -/
  | ctlClrerr
  /-- CTL_SRESET (44_control.md R333). -/
  | ctlSreset
  /-- BIG_LDI (40_biguint.md R155). -/
  | bigLdi (rd : BReg) (data : Word)
  /-- BIG_LDLIMB (40_biguint.md R156). -/
  | bigLdlimb (rd : BReg) (imm : Nat) (data : Word)
  /-- BIG_HEXIN (40_biguint.md R157). -/
  | bigHexin (rd : BReg) (data : Word)
  /-- BIG_MOV (40_biguint.md R158). -/
  | bigMov (rd : BReg) (rs1 : BReg)
  /-- BIG_ADD (40_biguint.md R159). -/
  | bigAdd (rd : BReg) (rs1 : BReg) (rs2 : BReg)
  /-- BIG_SUB (40_biguint.md R160). -/
  | bigSub (rd : BReg) (rs1 : BReg) (rs2 : BReg)
  /-- BIG_MUL (40_biguint.md R161). -/
  | bigMul (rd : BReg) (rs1 : BReg) (rs2 : BReg)
  /-- BIG_DIV (40_biguint.md R162). -/
  | bigDiv (rd : BReg) (rs1 : BReg) (rs2 : BReg)
  /-- BIG_REM (40_biguint.md R163). -/
  | bigRem (rd : BReg) (rs1 : BReg) (rs2 : BReg)
  /-- BIG_SHL (40_biguint.md R164). -/
  | bigShl (rd : BReg) (rs1 : BReg) (data : Word)
  /-- BIG_SHR (40_biguint.md R165). -/
  | bigShr (rd : BReg) (rs1 : BReg) (data : Word)
  /-- BIG_AND (40_biguint.md R166). -/
  | bigAnd (rd : BReg) (rs1 : BReg) (rs2 : BReg)
  /-- BIG_OR (40_biguint.md R167). -/
  | bigOr (rd : BReg) (rs1 : BReg) (rs2 : BReg)
  /-- BIG_CMP (40_biguint.md R168). -/
  | bigCmp (rs1 : BReg) (rs2 : BReg)
  /-- BIG_BITCNT (40_biguint.md R169). -/
  | bigBitcnt (rs1 : BReg)
  /-- BIG_TRUNC32 (40_biguint.md R170). -/
  | bigTrunc32 (rs1 : BReg)
  /-- BIG_TRUNC64 (40_biguint.md R171). -/
  | bigTrunc64 (rs1 : BReg)
  /-- BIG_GETLIMB (40_biguint.md R172). -/
  | bigGetlimb (rs1 : BReg) (imm : Nat)
  /-- BIG_NLIMBS (40_biguint.md R173). -/
  | bigNlimbs (rs1 : BReg)
  /-- BIG_HEXLEN (40_biguint.md R174). -/
  | bigHexlen (rs1 : BReg)
  /-- BIG_HEXDIG (40_biguint.md R175). -/
  | bigHexdig (rs1 : BReg) (imm : Nat)
  /-- PERM_ID (41_perm.md R210). -/
  | permId (rd : PReg) (imm : Nat)
  /-- PERM_FROMRANK (41_perm.md R211). -/
  | permFromrank (rd : PReg) (rs1 : BReg) (imm : Nat)
  /-- PERM_RANK (41_perm.md R212). -/
  | permRank (rd : BReg) (rs1 : PReg)
  /-- PERM_LDIMG (41_perm.md R213). -/
  | permLdimg (imm : Nat) (data : Word)
  /-- PERM_FROMIMG (41_perm.md R214). -/
  | permFromimg (rd : PReg) (imm : Nat)
  /-- PERM_GETIMG (41_perm.md R218). -/
  | permGetimg (rs1 : PReg) (imm : Nat)
  /-- PERM_SIZE (41_perm.md R219). -/
  | permSize (rs1 : PReg)
  /-- PERM_MOV (41_perm.md R215). -/
  | permMov (rd : PReg) (rs1 : PReg)
  /-- PERM_MUL (41_perm.md R216). -/
  | permMul (rd : PReg) (rs1 : PReg) (rs2 : PReg)
  /-- PERM_ISID (41_perm.md R217). -/
  | permIsid (rs1 : PReg)
  /-- PERM_EQ (41_perm.md R220). -/
  | permEq (rs1 : PReg) (rs2 : PReg)
  /-- PERM_SHUF (41_perm.md R221). -/
  | permShuf (rd : PReg) (imm : Nat)
  /-- PERM_SHUFODD (41_perm.md R222). -/
  | permShufodd (rd : PReg) (imm : Nat)
  /-- PERM_SHAREFIX (41_perm.md R223). -/
  | permSharefix (rs1 : PReg) (rs2 : PReg)
  /-- PT_INIT (42_powertable.md R252). -/
  | ptInit (u : PtUnit) (rs1 : PReg)
  /-- PT_ORDER (42_powertable.md R253). -/
  | ptOrder (u : PtUnit)
  /-- PT_FETCH (42_powertable.md R254). -/
  | ptFetch (rd : PReg) (u : PtUnit) (data : Word)
  /-- PT_MULPOW (42_powertable.md R255). -/
  | ptMulpow (rd : PReg) (rs1 : PReg) (u : PtUnit) (data : Word)
  /-- LANDAU (42_powertable.md R256). -/
  | landau (imm : Nat)
  /-- ENG_GENA (43_engine.md R290). -/
  | engGena (imm : Nat)
  /-- ENG_GENB (43_engine.md R291). -/
  | engGenb (imm : Nat) (rs1 : BReg) (rs2 : BReg)
  /-- ENG_SEEDR (43_engine.md R292). -/
  | engSeedr (rs1 : BReg)
  /-- ENG_SEEDU (43_engine.md R293). -/
  | engSeedu
  /-- ENG_STEP (43_engine.md R294). -/
  | engStep
  /-- ENG_RAND (43_engine.md R295). -/
  | engRand
  /-- ENG_MIX (43_engine.md R296). -/
  | engMix
  /-- ENG_GETP (43_engine.md R297). -/
  | engGetp (rd : PReg)
  /-- ENG_GETD (43_engine.md R298). -/
  | engGetd (imm : Nat)
deriving DecidableEq, Repr

/-- The opcode of an instruction. -/
def Instr.opcode : Instr → Opcode
  | .ctlNop => .ctlNop
  | .ctlRdcsr _ => .ctlRdcsr
  | .ctlClrerr => .ctlClrerr
  | .ctlSreset => .ctlSreset
  | .bigLdi _ _ => .bigLdi
  | .bigLdlimb _ _ _ => .bigLdlimb
  | .bigHexin _ _ => .bigHexin
  | .bigMov _ _ => .bigMov
  | .bigAdd _ _ _ => .bigAdd
  | .bigSub _ _ _ => .bigSub
  | .bigMul _ _ _ => .bigMul
  | .bigDiv _ _ _ => .bigDiv
  | .bigRem _ _ _ => .bigRem
  | .bigShl _ _ _ => .bigShl
  | .bigShr _ _ _ => .bigShr
  | .bigAnd _ _ _ => .bigAnd
  | .bigOr _ _ _ => .bigOr
  | .bigCmp _ _ => .bigCmp
  | .bigBitcnt _ => .bigBitcnt
  | .bigTrunc32 _ => .bigTrunc32
  | .bigTrunc64 _ => .bigTrunc64
  | .bigGetlimb _ _ => .bigGetlimb
  | .bigNlimbs _ => .bigNlimbs
  | .bigHexlen _ => .bigHexlen
  | .bigHexdig _ _ => .bigHexdig
  | .permId _ _ => .permId
  | .permFromrank _ _ _ => .permFromrank
  | .permRank _ _ => .permRank
  | .permLdimg _ _ => .permLdimg
  | .permFromimg _ _ => .permFromimg
  | .permGetimg _ _ => .permGetimg
  | .permSize _ => .permSize
  | .permMov _ _ => .permMov
  | .permMul _ _ _ => .permMul
  | .permIsid _ => .permIsid
  | .permEq _ _ => .permEq
  | .permShuf _ _ => .permShuf
  | .permShufodd _ _ => .permShufodd
  | .permSharefix _ _ => .permSharefix
  | .ptInit _ _ => .ptInit
  | .ptOrder _ => .ptOrder
  | .ptFetch _ _ _ => .ptFetch
  | .ptMulpow _ _ _ _ => .ptMulpow
  | .landau _ => .landau
  | .engGena _ => .engGena
  | .engGenb _ _ _ => .engGenb
  | .engSeedr _ => .engSeedr
  | .engSeedu => .engSeedu
  | .engStep => .engStep
  | .engRand => .engRand
  | .engMix => .engMix
  | .engGetp _ => .engGetp
  | .engGetd _ => .engGetd

end Sys2Proof
end

