-- ==== Sys2Proof/WellFormed.lean ====
section
/-! DEFINITION. Which instructions have an encoding: IMM is a 12-bit field (30_encoding.md R111). The register and
unit fields are bounded by their types. -/

namespace Sys2Proof

/-- A value that fits the IMM field, bits [31:20] (30_encoding.md R111). -/
def immFits (imm : Nat) : Bool := decide (imm < 4096)

/-- The instruction has an encoding. -/
def Instr.wellFormed : Instr → Bool
  | .ctlNop => true
  | .ctlRdcsr imm => immFits imm
  | .ctlClrerr => true
  | .ctlSreset => true
  | .bigLdi _ _ => true
  | .bigLdlimb _ imm _ => immFits imm
  | .bigHexin _ _ => true
  | .bigMov _ _ => true
  | .bigAdd _ _ _ => true
  | .bigSub _ _ _ => true
  | .bigMul _ _ _ => true
  | .bigDiv _ _ _ => true
  | .bigRem _ _ _ => true
  | .bigShl _ _ _ => true
  | .bigShr _ _ _ => true
  | .bigAnd _ _ _ => true
  | .bigOr _ _ _ => true
  | .bigCmp _ _ => true
  | .bigBitcnt _ => true
  | .bigTrunc32 _ => true
  | .bigTrunc64 _ => true
  | .bigGetlimb _ imm => immFits imm
  | .bigNlimbs _ => true
  | .bigHexlen _ => true
  | .bigHexdig _ imm => immFits imm
  | .permId _ imm => immFits imm
  | .permFromrank _ _ imm => immFits imm
  | .permRank _ _ => true
  | .permLdimg imm _ => immFits imm
  | .permFromimg _ imm => immFits imm
  | .permGetimg _ imm => immFits imm
  | .permSize _ => true
  | .permMov _ _ => true
  | .permMul _ _ _ => true
  | .permIsid _ => true
  | .permEq _ _ => true
  | .permShuf _ imm => immFits imm
  | .permShufodd _ imm => immFits imm
  | .permSharefix _ _ => true
  | .ptInit _ _ => true
  | .ptOrder _ => true
  | .ptFetch _ _ _ => true
  | .ptMulpow _ _ _ _ => true
  | .landau imm => immFits imm
  | .engGena imm => immFits imm
  | .engGenb imm _ _ => immFits imm
  | .engSeedr _ => true
  | .engSeedu => true
  | .engStep => true
  | .engRand => true
  | .engMix => true
  | .engGetp _ => true
  | .engGetd imm => immFits imm

end Sys2Proof
end

