-- ==== Sys2Proof/Decode.lean ====
section
/-! DEFINITION. The command encoding (30_encoding.md): formats and their masks, the opcode map, the decoder, total and
rejecting by name, and after it the encoder. -/

namespace Sys2Proof

/-- The formats of 30_encoding.md R115. -/
inductive Format where
  | n
  | i
  | d
  | di
  | ds
  | dss
  | dsi
  | s
  | ss
  | si
  | u
  | us
  | du
  | dsu
  | iss
deriving DecidableEq, Repr

/-- The bits a decoder must match: OPC, RSV and every unused field (30_encoding.md R115). -/
def Format.mask : Format → CmdWord
  | .n => 0xFFFFFFFF
  | .i => 0x000FFFFF
  | .d => 0xFFFFF8FF
  | .di => 0x000FF8FF
  | .ds => 0xFFFFC0FF
  | .dss => 0xFFFE00FF
  | .dsi => 0x000FC0FF
  | .s => 0xFFFFC7FF
  | .ss => 0xFFFE07FF
  | .si => 0x000FC7FF
  | .u => 0xFFFDFFFF
  | .us => 0xFFFDC7FF
  | .du => 0xFFFDF8FF
  | .dsu => 0xFFFDC0FF
  | .iss => 0x000E07FF

/-- The OPC value of each opcode (30_encoding.md R117). -/
def Opcode.code : Opcode → Byte
  | .ctlNop => 0x00
  | .ctlRdcsr => 0x01
  | .ctlClrerr => 0x02
  | .ctlSreset => 0x03
  | .bigLdi => 0x10
  | .bigLdlimb => 0x11
  | .bigHexin => 0x12
  | .bigMov => 0x13
  | .bigAdd => 0x14
  | .bigSub => 0x15
  | .bigMul => 0x16
  | .bigDiv => 0x17
  | .bigRem => 0x18
  | .bigShl => 0x19
  | .bigShr => 0x1A
  | .bigAnd => 0x1B
  | .bigOr => 0x1C
  | .bigCmp => 0x1D
  | .bigBitcnt => 0x1E
  | .bigTrunc32 => 0x1F
  | .bigTrunc64 => 0x20
  | .bigGetlimb => 0x21
  | .bigNlimbs => 0x22
  | .bigHexlen => 0x23
  | .bigHexdig => 0x24
  | .permId => 0x30
  | .permFromrank => 0x31
  | .permRank => 0x32
  | .permLdimg => 0x33
  | .permFromimg => 0x34
  | .permGetimg => 0x35
  | .permSize => 0x36
  | .permMov => 0x37
  | .permMul => 0x38
  | .permIsid => 0x39
  | .permEq => 0x3A
  | .permShuf => 0x3B
  | .permShufodd => 0x3C
  | .permSharefix => 0x3D
  | .ptInit => 0x40
  | .ptOrder => 0x41
  | .ptFetch => 0x42
  | .ptMulpow => 0x43
  | .landau => 0x44
  | .engGena => 0x50
  | .engGenb => 0x51
  | .engSeedr => 0x52
  | .engSeedu => 0x53
  | .engStep => 0x54
  | .engRand => 0x55
  | .engMix => 0x56
  | .engGetp => 0x57
  | .engGetd => 0x58

/-- The format of each opcode (30_encoding.md R117). -/
def Opcode.format : Opcode → Format
  | .ctlNop => .n
  | .ctlRdcsr => .i
  | .ctlClrerr => .n
  | .ctlSreset => .n
  | .bigLdi => .d
  | .bigLdlimb => .di
  | .bigHexin => .d
  | .bigMov => .ds
  | .bigAdd => .dss
  | .bigSub => .dss
  | .bigMul => .dss
  | .bigDiv => .dss
  | .bigRem => .dss
  | .bigShl => .ds
  | .bigShr => .ds
  | .bigAnd => .dss
  | .bigOr => .dss
  | .bigCmp => .ss
  | .bigBitcnt => .s
  | .bigTrunc32 => .s
  | .bigTrunc64 => .s
  | .bigGetlimb => .si
  | .bigNlimbs => .s
  | .bigHexlen => .s
  | .bigHexdig => .si
  | .permId => .di
  | .permFromrank => .dsi
  | .permRank => .ds
  | .permLdimg => .i
  | .permFromimg => .di
  | .permGetimg => .si
  | .permSize => .s
  | .permMov => .ds
  | .permMul => .dss
  | .permIsid => .s
  | .permEq => .ss
  | .permShuf => .di
  | .permShufodd => .di
  | .permSharefix => .ss
  | .ptInit => .us
  | .ptOrder => .u
  | .ptFetch => .du
  | .ptMulpow => .dsu
  | .landau => .i
  | .engGena => .i
  | .engGenb => .iss
  | .engSeedr => .s
  | .engSeedu => .n
  | .engStep => .n
  | .engRand => .n
  | .engMix => .n
  | .engGetp => .d
  | .engGetd => .i

/-- The opcodes of the group 0x00-0x0F control (30_encoding.md R117). -/
def Opcode.controlGroup : List Opcode :=
  [.ctlNop, .ctlRdcsr, .ctlClrerr, .ctlSreset]

/-- The opcodes of the group 0x10-0x2F BigUInt (30_encoding.md R117). -/
def Opcode.bigGroup : List Opcode :=
  [.bigLdi, .bigLdlimb, .bigHexin, .bigMov, .bigAdd, .bigSub, .bigMul, .bigDiv, .bigRem, .bigShl, .bigShr,
   .bigAnd, .bigOr, .bigCmp, .bigBitcnt, .bigTrunc32, .bigTrunc64, .bigGetlimb, .bigNlimbs, .bigHexlen,
   .bigHexdig]

/-- The opcodes of the group 0x30-0x3F Perm (30_encoding.md R117). -/
def Opcode.permGroup : List Opcode :=
  [.permId, .permFromrank, .permRank, .permLdimg, .permFromimg, .permGetimg, .permSize, .permMov, .permMul,
   .permIsid, .permEq, .permShuf, .permShufodd, .permSharefix]

/-- The opcodes of the group 0x40-0x4F PowerTable (30_encoding.md R117). -/
def Opcode.tableGroup : List Opcode :=
  [.ptInit, .ptOrder, .ptFetch, .ptMulpow, .landau]

/-- The opcodes of the group 0x50-0x5F CayleyEngine (30_encoding.md R117). -/
def Opcode.engineGroup : List Opcode :=
  [.engGena, .engGenb, .engSeedr, .engSeedu, .engStep, .engRand, .engMix, .engGetp, .engGetd]

/-- Every opcode, in the order of 30_encoding.md R117. -/
def Opcode.all : List Opcode :=
  Opcode.controlGroup ++ (Opcode.bigGroup ++ (Opcode.permGroup ++ (Opcode.tableGroup ++ Opcode.engineGroup)))

/-- The opcode a code stands for; none for a reserved one (30_encoding.md R118). -/
def Opcode.ofCode (c : Byte) : Option Opcode :=
  Opcode.all.find? fun o => o.code == c

/-- The match value of an opcode: `zext_32(OPC)` (30_encoding.md R115). -/
def Opcode.matchWord (o : Opcode) : CmdWord := o.code.setWidth 32

/-- The operand fields of a command word (30_encoding.md R111, R112), RSV left out. -/
structure Fields where
  rd : Fin 8 := 0
  rs1 : Fin 8 := 0
  rs2 : Fin 8 := 0
  u : Fin 2 := 0
  imm : Nat := 0
deriving DecidableEq, Repr

/-- OPC = w[7:0] (30_encoding.md R111). -/
def opcField (w : CmdWord) : Byte := w.extractLsb' 0 8

/-- RD = w[10:8], RS1 = w[13:11], RS2 = w[16:14], U = w[17], IMM = w[31:20] (30_encoding.md R112). -/
def fieldsOf (w : CmdWord) : Fields where
  rd := (w.extractLsb' 8 3).toFin
  rs1 := (w.extractLsb' 11 3).toFin
  rs2 := (w.extractLsb' 14 3).toFin
  u := (w.extractLsb' 17 1).toFin
  imm := (w.extractLsb' 20 12).toNat

/-- Why a command word is no instruction (60_exceptions.md R354): a reserved OPC, or a nonzero unused field or RSV. -/
inductive DecodeError where
  | badOpcode
  | badField
deriving DecidableEq, Repr

/-- The instruction of an opcode with its fields and DATA; DATA is dropped where the opcode ignores it
(30_encoding.md R113). -/
def Opcode.build (o : Opcode) (f : Fields) (data : Word) : Instr :=
  match o with
  | .ctlNop => .ctlNop
  | .ctlRdcsr => .ctlRdcsr f.imm
  | .ctlClrerr => .ctlClrerr
  | .ctlSreset => .ctlSreset
  | .bigLdi => .bigLdi f.rd data
  | .bigLdlimb => .bigLdlimb f.rd f.imm data
  | .bigHexin => .bigHexin f.rd data
  | .bigMov => .bigMov f.rd f.rs1
  | .bigAdd => .bigAdd f.rd f.rs1 f.rs2
  | .bigSub => .bigSub f.rd f.rs1 f.rs2
  | .bigMul => .bigMul f.rd f.rs1 f.rs2
  | .bigDiv => .bigDiv f.rd f.rs1 f.rs2
  | .bigRem => .bigRem f.rd f.rs1 f.rs2
  | .bigShl => .bigShl f.rd f.rs1 data
  | .bigShr => .bigShr f.rd f.rs1 data
  | .bigAnd => .bigAnd f.rd f.rs1 f.rs2
  | .bigOr => .bigOr f.rd f.rs1 f.rs2
  | .bigCmp => .bigCmp f.rs1 f.rs2
  | .bigBitcnt => .bigBitcnt f.rs1
  | .bigTrunc32 => .bigTrunc32 f.rs1
  | .bigTrunc64 => .bigTrunc64 f.rs1
  | .bigGetlimb => .bigGetlimb f.rs1 f.imm
  | .bigNlimbs => .bigNlimbs f.rs1
  | .bigHexlen => .bigHexlen f.rs1
  | .bigHexdig => .bigHexdig f.rs1 f.imm
  | .permId => .permId f.rd f.imm
  | .permFromrank => .permFromrank f.rd f.rs1 f.imm
  | .permRank => .permRank f.rd f.rs1
  | .permLdimg => .permLdimg f.imm data
  | .permFromimg => .permFromimg f.rd f.imm
  | .permGetimg => .permGetimg f.rs1 f.imm
  | .permSize => .permSize f.rs1
  | .permMov => .permMov f.rd f.rs1
  | .permMul => .permMul f.rd f.rs1 f.rs2
  | .permIsid => .permIsid f.rs1
  | .permEq => .permEq f.rs1 f.rs2
  | .permShuf => .permShuf f.rd f.imm
  | .permShufodd => .permShufodd f.rd f.imm
  | .permSharefix => .permSharefix f.rs1 f.rs2
  | .ptInit => .ptInit f.u f.rs1
  | .ptOrder => .ptOrder f.u
  | .ptFetch => .ptFetch f.rd f.u data
  | .ptMulpow => .ptMulpow f.rd f.rs1 f.u data
  | .landau => .landau f.imm
  | .engGena => .engGena f.imm
  | .engGenb => .engGenb f.imm f.rs1 f.rs2
  | .engSeedr => .engSeedr f.rs1
  | .engSeedu => .engSeedu
  | .engStep => .engStep
  | .engRand => .engRand
  | .engMix => .engMix
  | .engGetp => .engGetp f.rd
  | .engGetd => .engGetd f.imm

/-- The decoder: a reserved OPC is BAD_OPCODE whatever the other fields hold (30_encoding.md R118, R119); a known OPC
with a nonzero unused field or RSV is BAD_FIELD (R114); otherwise the instruction (R112, R115). -/
def decode (w : CmdWord) (data : Word) : Except DecodeError Instr :=
  match Opcode.ofCode (opcField w) with
  | none => .error .badOpcode
  | some o => if w &&& o.format.mask = o.matchWord then .ok (o.build (fieldsOf w) data) else .error .badField

/-- The fields an instruction's encoding holds; the unused ones are zero (30_encoding.md R114). -/
def Instr.fields : Instr → Fields
  | .ctlNop => {}
  | .ctlRdcsr imm => { imm := imm }
  | .ctlClrerr => {}
  | .ctlSreset => {}
  | .bigLdi rd _ => { rd := rd }
  | .bigLdlimb rd imm _ => { rd := rd, imm := imm }
  | .bigHexin rd _ => { rd := rd }
  | .bigMov rd rs1 => { rd := rd, rs1 := rs1 }
  | .bigAdd rd rs1 rs2 => { rd := rd, rs1 := rs1, rs2 := rs2 }
  | .bigSub rd rs1 rs2 => { rd := rd, rs1 := rs1, rs2 := rs2 }
  | .bigMul rd rs1 rs2 => { rd := rd, rs1 := rs1, rs2 := rs2 }
  | .bigDiv rd rs1 rs2 => { rd := rd, rs1 := rs1, rs2 := rs2 }
  | .bigRem rd rs1 rs2 => { rd := rd, rs1 := rs1, rs2 := rs2 }
  | .bigShl rd rs1 _ => { rd := rd, rs1 := rs1 }
  | .bigShr rd rs1 _ => { rd := rd, rs1 := rs1 }
  | .bigAnd rd rs1 rs2 => { rd := rd, rs1 := rs1, rs2 := rs2 }
  | .bigOr rd rs1 rs2 => { rd := rd, rs1 := rs1, rs2 := rs2 }
  | .bigCmp rs1 rs2 => { rs1 := rs1, rs2 := rs2 }
  | .bigBitcnt rs1 => { rs1 := rs1 }
  | .bigTrunc32 rs1 => { rs1 := rs1 }
  | .bigTrunc64 rs1 => { rs1 := rs1 }
  | .bigGetlimb rs1 imm => { rs1 := rs1, imm := imm }
  | .bigNlimbs rs1 => { rs1 := rs1 }
  | .bigHexlen rs1 => { rs1 := rs1 }
  | .bigHexdig rs1 imm => { rs1 := rs1, imm := imm }
  | .permId rd imm => { rd := rd, imm := imm }
  | .permFromrank rd rs1 imm => { rd := rd, rs1 := rs1, imm := imm }
  | .permRank rd rs1 => { rd := rd, rs1 := rs1 }
  | .permLdimg imm _ => { imm := imm }
  | .permFromimg rd imm => { rd := rd, imm := imm }
  | .permGetimg rs1 imm => { rs1 := rs1, imm := imm }
  | .permSize rs1 => { rs1 := rs1 }
  | .permMov rd rs1 => { rd := rd, rs1 := rs1 }
  | .permMul rd rs1 rs2 => { rd := rd, rs1 := rs1, rs2 := rs2 }
  | .permIsid rs1 => { rs1 := rs1 }
  | .permEq rs1 rs2 => { rs1 := rs1, rs2 := rs2 }
  | .permShuf rd imm => { rd := rd, imm := imm }
  | .permShufodd rd imm => { rd := rd, imm := imm }
  | .permSharefix rs1 rs2 => { rs1 := rs1, rs2 := rs2 }
  | .ptInit u rs1 => { u := u, rs1 := rs1 }
  | .ptOrder u => { u := u }
  | .ptFetch rd u _ => { rd := rd, u := u }
  | .ptMulpow rd rs1 u _ => { rd := rd, rs1 := rs1, u := u }
  | .landau imm => { imm := imm }
  | .engGena imm => { imm := imm }
  | .engGenb imm rs1 rs2 => { imm := imm, rs1 := rs1, rs2 := rs2 }
  | .engSeedr rs1 => { rs1 := rs1 }
  | .engSeedu => {}
  | .engStep => {}
  | .engRand => {}
  | .engMix => {}
  | .engGetp rd => { rd := rd }
  | .engGetd imm => { imm := imm }

/-- The DATA word of an instruction; zero where the opcode ignores it (30_encoding.md R113, R120). -/
def Instr.data : Instr → Word
  | .ctlNop => 0
  | .ctlRdcsr _ => 0
  | .ctlClrerr => 0
  | .ctlSreset => 0
  | .bigLdi _ data => data
  | .bigLdlimb _ _ data => data
  | .bigHexin _ data => data
  | .bigMov _ _ => 0
  | .bigAdd _ _ _ => 0
  | .bigSub _ _ _ => 0
  | .bigMul _ _ _ => 0
  | .bigDiv _ _ _ => 0
  | .bigRem _ _ _ => 0
  | .bigShl _ _ data => data
  | .bigShr _ _ data => data
  | .bigAnd _ _ _ => 0
  | .bigOr _ _ _ => 0
  | .bigCmp _ _ => 0
  | .bigBitcnt _ => 0
  | .bigTrunc32 _ => 0
  | .bigTrunc64 _ => 0
  | .bigGetlimb _ _ => 0
  | .bigNlimbs _ => 0
  | .bigHexlen _ => 0
  | .bigHexdig _ _ => 0
  | .permId _ _ => 0
  | .permFromrank _ _ _ => 0
  | .permRank _ _ => 0
  | .permLdimg _ data => data
  | .permFromimg _ _ => 0
  | .permGetimg _ _ => 0
  | .permSize _ => 0
  | .permMov _ _ => 0
  | .permMul _ _ _ => 0
  | .permIsid _ => 0
  | .permEq _ _ => 0
  | .permShuf _ _ => 0
  | .permShufodd _ _ => 0
  | .permSharefix _ _ => 0
  | .ptInit _ _ => 0
  | .ptOrder _ => 0
  | .ptFetch _ _ data => data
  | .ptMulpow _ _ _ data => data
  | .landau _ => 0
  | .engGena _ => 0
  | .engGenb _ _ _ => 0
  | .engSeedr _ => 0
  | .engSeedu => 0
  | .engStep => 0
  | .engRand => 0
  | .engMix => 0
  | .engGetp _ => 0
  | .engGetd _ => 0

/-- The command word with these fields and RSV = 0 (30_encoding.md R111). -/
def packWord (opc : Byte) (f : Fields) : CmdWord :=
  BitVec.ofNat 12 f.imm ++ 0#2 ++ BitVec.ofNat 1 f.u.val ++ BitVec.ofNat 3 f.rs2.val ++ BitVec.ofNat 3 f.rs1.val ++
    BitVec.ofNat 3 f.rd.val ++ opc

/-- The encoder: the command that stands for an instruction. -/
def encode (i : Instr) : Command :=
  { word := packWord i.opcode.code i.fields, data := i.data }

/-- The command whose bits are the first `nbits` bits of `w`: the command word is bits 31..0, DATA bits 95..32, and the
bits from `nbits` on are zero (the host's numbering). -/
def commandOfBits (nbits w : Nat) : Command :=
  let v := w % 2 ^ nbits
  { word := BitVec.ofNat 32 v, data := BitVec.ofNat 64 (v / 2 ^ 32) }

/-- The instruction the decoder reads from a table row's word (the host's interface). -/
def decodeTableWord (nbits w : Nat) : Option Instr :=
  match decode (commandOfBits nbits w).word (commandOfBits nbits w).data with
  | .ok i => some i
  | .error _ => none

end Sys2Proof
end

