-- ==== Sys2Proof/Machine/BigOps.lean ====
section
/-! DEFINITION. The functions on natural numbers that the BigUInt commands use (40_biguint.md; 00_scope.md R11, R15). -/

namespace Sys2Proof.Machine

/-- 2^(32·j), the weight of limb j (10_state.md R33). -/
def limbWeight (j : Nat) : Nat := (2 ^ 32) ^ j

/-- CAP = 2^(32·BIG_LIMBS) (40_biguint.md R151). -/
def capOf (bigLimbs : Nat) : Nat := limbWeight bigLimbs

/-- bitcount(x): 0 for 0, otherwise ⌊log2 x⌋ + 1 (00_scope.md R11). -/
def bitcount (x : Nat) : Nat := if x = 0 then 0 else Nat.log2 x + 1

/-- limb(v, j) = (v div 2^(32·j)) mod 2^32 (10_state.md R33). -/
def limb (v j : Nat) : Nat := v / limbWeight j % 2 ^ 32

/-- v with its limb j replaced (40_biguint.md R156). -/
def setLimb (v j new : Nat) : Nat := v - limb v j * limbWeight j + new * limbWeight j

/-- nlimbs(v) = 1 for 0, otherwise ⌈bitcount(v)/32⌉ (10_state.md R34). -/
def nlimbs (v : Nat) : Nat := if v = 0 then 1 else (bitcount v + 31) / 32

/-- The length of render(v) (40_biguint.md R174). -/
def hexLen (v : Nat) : Nat := if v = 0 then 1 else (bitcount v + 3) / 4

/-- The digit value of an ASCII code of 0–9, A–F, a–f; none for any other value (40_biguint.md R157). -/
def hexValue? (c : Nat) : Option Nat :=
  if 0x30 ≤ c ∧ c ≤ 0x39 then some (c - 0x30)
  else if 0x41 ≤ c ∧ c ≤ 0x46 then some (c - 0x41 + 10)
  else if 0x61 ≤ c ∧ c ≤ 0x66 then some (c - 0x61 + 10)
  else none

/-- The ASCII code of a digit value, uppercase (40_biguint.md R175). -/
def hexCode (d : Nat) : Nat := if d < 10 then 0x30 + d else 0x41 + (d - 10)

/-- The k-th character of render(v), 0 being the most significant; meant for k < hexLen v (40_biguint.md R175). -/
def hexDigit (v k : Nat) : Nat := hexCode (v / 16 ^ (hexLen v - 1 - k) % 16)

/-- Whether a·2^d reaches CAP: a ≠ 0 and bitcount(a) + d > 32·BIG_LIMBS (40_biguint.md R164, "Exceptions"; log 12). -/
def shlOverflows (bigLimbs a d : Nat) : Bool := decide (a ≠ 0 ∧ 32 * bigLimbs < bitcount a + d)

/-- a·2^d for a shift that does not overflow; 0 for a = 0 whatever d (40_biguint.md R164). -/
def shlValue (a d : Nat) : Nat := if a = 0 then 0 else a * 2 ^ d

/-- a div 2^d; 0 for d ≥ bitcount(a) (40_biguint.md R165; log 12). -/
def shrValue (a d : Nat) : Nat := if bitcount a ≤ d then 0 else a / 2 ^ d

end Sys2Proof.Machine
end

