-- ==== Sys2Proof/Config.lean ====
section
/-! DEFINITION. What an implementation fixes (00_scope.md R8, R9): the parameters BIG_LIMBS and PT_DEPTH and the
read-only memories KEY and D_INIT. Their open values are opaque constants. -/

namespace Sys2Proof

/-- The configuration of one block (10_state.md R30: "configuration, not state"). No command and no reset changes it. -/
structure Config where
  /-- BIG_LIMBS, limbs per BigUInt register (00_scope.md R8). -/
  bigLimbs : Nat
  /-- PT_DEPTH, entries per power-table unit (00_scope.md R8). -/
  ptDepth : Nat
  /-- KEY[0..63], the mixing keys (10_state.md R48). -/
  key : Vector Word 64
  /-- D_INIT[0..31], the delay-line initial words (10_state.md R49). -/
  dInit : Vector Word 32
deriving DecidableEq, Repr

namespace Config

/-- The ranges of the parameters (00_scope.md R8) and the only properties of KEY and D_INIT that a proof may use
(00_scope.md R9): KEY[i] is odd for i < 32, KEY[22+j] = KEY[j] for j ≤ 9, every D_INIT[i] is nonzero. -/
abbrev Wf (c : Config) : Prop :=
  (10 ≤ c.bigLimbs ∧ c.bigLimbs ≤ 128) ∧ (1 ≤ c.ptDepth ∧ c.ptDepth ≤ 2042040) ∧
  (∀ i : Fin 32, c.key[i.val].getLsbD 0 = true) ∧
  (∀ j : Fin 10, c.key[22 + j.val] = c.key[j.val]) ∧
  (∀ i : Fin 32, c.dInit[i.val] ≠ 0)

/-- OPEN (92 D6; log 2): the unknown words KEY is made from. -/
opaque keyWord : Nat → Word

/-- OPEN (92 D7; log 2): the unknown words D_INIT is made from. -/
opaque dInitWord : Nat → Word

/-- KEY[i] with the properties of 00_scope.md R9 and no other: any odd word below 22, the repetition at 22 to 31, any
word from 32 on. -/
def openKey (i : Nat) : Word :=
  if i < 22 then keyWord i ||| 1 else if i < 32 then keyWord (i - 22) ||| 1 else keyWord i

/-- D_INIT[i]: any nonzero word (00_scope.md R9). -/
def openDInit (i : Nat) : Word :=
  if dInitWord i = 0 then 1 else dInitWord i

/-- The configuration the model is reset with: the spec's defaults for the two sizes (00_scope.md R8; log 1) and the
open read-only memories (log 2). -/
def reference : Config where
  bigLimbs := 16
  ptDepth := 5460
  key := Vector.ofFn fun i => openKey i.val
  dInit := Vector.ofFn fun i => openDInit i.val

end Config

end Sys2Proof
end

