-- ==== Sys2Proof/Machine/State.lean ====
section
/-! DEFINITION. The state of one block (10_state.md), as plain data: what the block holds, what its channels hold, and
what the two outside agents have offered and the block has not taken yet. -/

namespace Sys2Proof.Machine

/-- A permutation of {0..n-1}, written by its image array m[0..n-1] (00_scope.md R14; 10_state.md R36); n is the
length. The non-architectural bytes m[n..63] (10_state.md R37) are not represented (log 9). -/
abbrev Perm := List Nat

/-- A valid power-table unit: the triple (n, k, T) of 10_state.md R40. -/
structure PowerTable where
  n : Nat
  k : Nat
  tab : List Perm
deriving DecidableEq, Repr

/-- A response on the response channel: rsp_status and rsp_result (10_state.md R62). -/
structure Response where
  status : Byte
  result : Word
deriving DecidableEq, Repr

/-- What a command can report (60_exceptions.md R352 to R354). FaultPending (R355) is no fault entry and is not here. -/
inductive Cause where
  | invalidHexDigit
  | sizeMismatch
  | ptIndex
  | badN
  | divZero
  | notBijection
  | emptyOperand
  | orderNotLandau
  | capacity
  | notSeeded
  | noOdd
  | indexRange
  | noGenerators
  | badOpcode
  | badField
  | badCsr
deriving DecidableEq, Repr

/-- Where the model stops. The block's own faults are not here: each of them is a next state (60_exceptions.md R356). -/
inductive Fault where
  /-- Raised by ENG_STEP, ENG_RAND, ENG_MIX and ENG_GETP in a state with SEEDED = 1 that breaks 10_state.md R50 (no P,
  no generator table, or a table without the entry the step selects). No run reaches such a state. Safe (log 13). -/
  | engineInvariantBroken
deriving DecidableEq, Repr

/-- An instruction without a meaning. -/
inductive Refusal where
  /-- Raised by a refused arm of `exec` only: the instruction is not modelled yet. Safe. No arm is refused. -/
  | notModelled (mnemonic : String)
deriving DecidableEq, Repr

/-- The state of the block and of its ports (10_state.md R30, R60 to R63). -/
structure State where
  /-- The configuration: read only, not state of the spec's (10_state.md R30; log 1). -/
  cfg : Config
  /-- BR[0..7], natural numbers (10_state.md R32 to R34; log 8). -/
  br : Vector Nat 8
  /-- PR[0..7], `none` for EMPTY (10_state.md R36). -/
  pr : Vector (Option Perm) 8
  /-- IMGBUF[0..63] (10_state.md R39). -/
  imgbuf : Vector Byte 64
  /-- PT[0], PT[1], `none` for INVALID (10_state.md R40). -/
  pt : Vector (Option PowerTable) 2
  /-- N_ENG (10_state.md R43). -/
  nEng : Nat
  /-- GENOK (10_state.md R43). -/
  genok : Bool
  /-- SEEDED (10_state.md R43). -/
  seeded : Bool
  /-- P, `none` for EMPTY (10_state.md R44). -/
  p : Option Perm
  /-- D[0..31] (10_state.md R45). -/
  d : Vector Word 32
  /-- t, the tail index (10_state.md R46). -/
  t : Fin 32
  /-- b, the generator-parity bit (10_state.md R46). -/
  b : Fin 2
  /-- FAULT (10_state.md R54). -/
  fault : Bool
  /-- ERRINFO (10_state.md R55). -/
  errinfo : Word
  /-- DRAWS (10_state.md R56). -/
  draws : Word
  /-- Response channel: the response the host has not taken; rsp_valid = 1 iff there is one (10_state.md R62). -/
  rsp : Option Response
  /-- The command in the block that waits on the uniform-64 channel (10_state.md R65(c); 70 R416; log 6). -/
  pending : Option Instr
  /-- The words the waiting command has taken so far (70_reset_and_hazards.md R401, R413; log 6). -/
  taken : List Word
  /-- Input: the level of rst_n (10_state.md R63; log 7). -/
  rstN : Bool
  /-- Input: the commands the host presents on the command channel, in order (10_state.md R61; log 4). -/
  cmdQ : List Command
  /-- Input: the level of rsp_ready (10_state.md R62; log 5). -/
  rspReady : Bool
  /-- Input: the words the uniform-64 source offers, in order (10_state.md R60; log 6). -/
  rngQ : List Word
deriving DecidableEq, Repr

/-- What a step answers. -/
abbrev Out := Host.Outcome State Fault Refusal

/-- The machine right after reset: every piece of state at the value of 10_state.md R66; rst_n deasserted, no command
and no word offered yet, and the host ready to take a response (log 4 to log 7). -/
def State.reset : State where
  cfg := Config.reference
  br := Vector.replicate 8 0
  pr := Vector.replicate 8 none
  imgbuf := Vector.replicate 64 0
  pt := Vector.replicate 2 none
  nEng := 0
  genok := false
  seeded := false
  p := none
  d := Config.reference.dInit
  t := 0
  b := 0
  fault := false
  errinfo := 0
  draws := 0
  rsp := none
  pending := none
  taken := []
  rstN := true
  cmdQ := []
  rspReady := true
  rngQ := []

end Sys2Proof.Machine
end

