-- ==== Sys2Proof/Machine/Ops.lean ====
section
/-! DEFINITION. The named operations of the machine over its registers and channels: register reads and writes,
completing a command, fault entry and its clearing (60_exceptions.md R350 to R362), draws (00_scope.md R13), reset
(70_reset_and_hazards.md R401). -/

namespace Sys2Proof.Machine

namespace State

/-! Register files. -/

/-- BR[r] (00_scope.md R12). -/
def getBr (s : State) (r : BReg) : Nat := s.br[r.val]

/-- BR[r] <- v (00_scope.md R12). -/
def setBr (s : State) (r : BReg) (v : Nat) : State := { s with br := s.br.set r.val v }

/-- PR[r] (00_scope.md R12). -/
def getPr (s : State) (r : PReg) : Option Perm := s.pr[r.val]

/-- PR[r] <- (n, m) (00_scope.md R12). -/
def setPr (s : State) (r : PReg) (p : Perm) : State := { s with pr := s.pr.set r.val (some p) }

/-- PT[u] (00_scope.md R12). -/
def getPt (s : State) (u : PtUnit) : Option PowerTable := s.pt[u.val]

/-- PT[u] <- (n, k, T) (00_scope.md R12). -/
def setPt (s : State) (u : PtUnit) (g : PowerTable) : State := { s with pt := s.pt.set u.val (some g) }

/-- IMGBUF <- buf (10_state.md R39). -/
def setImg (s : State) (buf : Vector Byte 64) : State := { s with imgbuf := buf }

/-- CAP = 2^(32·BIG_LIMBS) (40_biguint.md R151). -/
def cap (s : State) : Nat := capOf s.cfg.bigLimbs

/-! Completing a command. -/

/-- The response of the command, held until the host takes it (10_state.md R62; 70 R412). -/
def respond (s : State) (status : Byte) (result : Word) : State := { s with rsp := some ⟨status, result⟩ }

/-! Faults. -/

/-- FAULT <- 0; ERRINFO <- 0: the return from a fault (44_control.md R332; 60_exceptions.md R361). -/
def clearFault (s : State) : State := { s with fault := false, errinfo := 0 }

/-- FAULT <- 1; ERRINFO <- info, unless a fault is latched already (60_exceptions.md R356, R362). -/
def latchFault (s : State) (info : Word) : State :=
  if s.fault then s else { s with fault := true, errinfo := info }

end State

/-- The status code of a cause (60_exceptions.md R351). -/
def Cause.code : Cause → Byte
  | .invalidHexDigit => 1
  | .badOpcode => 3
  | .badField => 3
  | .badCsr => 3
  | .sizeMismatch => 2
  | .ptIndex => 2
  | .badN => 2
  | .divZero => 2
  | .notBijection => 2
  | .emptyOperand => 2
  | .orderNotLandau => 2
  | .capacity => 2
  | .notSeeded => 2
  | .noOdd => 2
  | .indexRange => 2
  | .noGenerators => 2

/-- The sub-cause of a cause (60_exceptions.md R352 to R354). -/
def Cause.sub : Cause → Byte
  | .invalidHexDigit => 0x00
  | .sizeMismatch => 0x01
  | .ptIndex => 0x02
  | .badN => 0x03
  | .divZero => 0x04
  | .notBijection => 0x05
  | .emptyOperand => 0x06
  | .orderNotLandau => 0x07
  | .capacity => 0x08
  | .notSeeded => 0x09
  | .noOdd => 0x0A
  | .indexRange => 0x0B
  | .noGenerators => 0x0C
  | .badOpcode => 0x01
  | .badField => 0x02
  | .badCsr => 0x03

/-- The info word {OPC, SUB, CODE}, zero-extended (60_exceptions.md R356; 10_state.md R55). -/
def faultInfo (opc : Byte) (c : Cause) : Word := (opc ++ c.sub ++ c.code).setWidth 64

/-- The status code of FaultPending (60_exceptions.md R351). -/
def faultPendingCode : Byte := 4

/-- FAULT ENTRY, the one shared operation (60_exceptions.md R356): latch FAULT and ERRINFO if no fault is latched,
answer the info word with the cause's code; nothing else changes (R360). -/
def State.faultEntry (s : State) (opc : Byte) (c : Cause) : State :=
  (s.latchFault (faultInfo opc c)).respond c.code (faultInfo opc c)

/-- The command ends with a fault (00_scope.md R13 "raise"). -/
def raise (o : Opcode) (c : Cause) (s : State) : Out := .next (s.faultEntry o.code c)

/-- The command completes with status 0 and a RESULT (60_exceptions.md R350). -/
def answer (result : Word) (s : State) : Out := .next (s.respond 0 result)

/-- The command completes with status 0 and RESULT = 0, the value where its rule gives none (92 D42). -/
def done (s : State) : Out := answer 0 s

/-- A non-CTL command: while FAULT = 1 it changes nothing and answers FaultPending with RESULT = ERRINFO
(60_exceptions.md R355); otherwise it executes. -/
def unlessFault (s : State) (k : Out) : Out :=
  if s.fault then .next (s.respond faultPendingCode s.errinfo) else k

/-! Draws (00_scope.md R13; 70_reset_and_hazards.md R413, R416; log 6). A drawing command runs on the words the source
has supplied to it: those it has taken while it waited, then those on offer. -/

/-- The words supplied to the drawing command, in order. -/
def State.supply (s : State) : List Word := s.taken ++ s.rngQ

/-- The words of the supply but the last ones, `rest`, are drawn: DRAWS counts those not taken before
(10_state.md R56), and `rest` stays on offer. -/
def State.drew (s : State) (rest : List Word) : State :=
  { s with draws := s.draws + BitVec.ofNat 64 (s.rngQ.length - rest.length), taken := [], rngQ := rest }

/-- The supply runs out: every word on offer is taken, the command `i` keeps the words `kept` and waits in the block
(70_reset_and_hazards.md R416). -/
def State.await (s : State) (i : Instr) (kept : List Word) : State :=
  { s with draws := s.draws + BitVec.ofNat 64 s.rngQ.length, taken := kept, rngQ := [], pending := some i }

/-- The command `i` makes `k` draws and goes on with their words in order, or waits for more. -/
def drawing (i : Instr) (k : Nat) (s : State) (go : List Word → State → Out) : Out :=
  if s.supply.length < k then .next (s.await i s.supply)
  else go (s.supply.take k) (s.drew (s.supply.drop k))

/-! Reset. -/

/-- Every piece of state of the block at its reset value (10_state.md R66; 70_reset_and_hazards.md R401): a command in
progress is abandoned and the words it had taken are lost. The configuration and the input side of the ports are
outside the block and stay. -/
def State.blockReset (s : State) : State :=
  { State.reset with
    cfg := s.cfg, d := s.cfg.dInit, rstN := s.rstN, cmdQ := s.cmdQ, rspReady := s.rspReady, rngQ := s.rngQ }

end Sys2Proof.Machine
end

