-- ==== Sys2Proof/Machine/Channel.lean ====
section
/-! DEFINITION. The block's ports: what one transaction does before an instruction executes (10_state.md R60 to R63;
70_reset_and_hazards.md R400, R411 to R416), and the port outputs. -/

namespace Sys2Proof.Machine

/-- cmd_ready: no command in the block and no response outstanding (10_state.md R61, R63). -/
def State.cmdReady (s : State) : Bool := s.rstN && s.rsp.isNone && s.pending.isNone

/-- rsp_valid (10_state.md R62, R63). -/
def State.rspValid (s : State) : Bool := s.rstN && s.rsp.isSome

/-- rng_req: a command in the block waits for a draw (10_state.md R60, R63). -/
def State.rngReq (s : State) : Bool := s.rstN && s.pending.isSome

/-- The cause an undecodable word reports (60_exceptions.md R354). -/
def decodeCause : DecodeError → Cause
  | .badOpcode => .badOpcode
  | .badField => .badField

/-- What a transaction comes to: the block settles in a state, or an instruction executes from one. -/
inductive Transaction where
  | settle (s : State)
  | execute (i : Instr) (s : State)
deriving DecidableEq, Repr

/-- The command at the head of the channel is transferred and decoded; an undecodable one reports its fault at once,
whatever FAULT is (60_exceptions.md R354, R357). -/
def State.accept (s : State) (c : Command) (q : List Command) : Transaction :=
  match decode c.word c.data with
  | .ok i => .execute i { s with cmdQ := q }
  | .error e => .settle ({ s with cmdQ := q }.faultEntry (opcField c.word) (decodeCause e))

/-- One transaction: rst_n first (70 R400); an outstanding response is held until rsp_ready and then leaves the block
(70 R412); a waiting command goes on (70 R416); otherwise the next command is accepted (10_state.md R61), or the block
stays idle (70 R402). -/
def State.transaction (s : State) : Transaction :=
  if s.rstN = false then .settle s.blockReset
  else
    match s.rsp with
    | some _ => .settle (if s.rspReady then { s with rsp := none } else s)
    | none =>
      match s.pending with
      | some i => .execute i { s with pending := none }
      | none =>
        match s.cmdQ with
        | [] => .settle s
        | c :: q => s.accept c q

end Sys2Proof.Machine
end

