-- ==== Sys2Proof/Machine/PermOps.lean ====
section
/-! DEFINITION. The functions on permutations of 41_perm.md: identity, unrank and rank, composition, sampling and the
tests. A permutation is its image array (00_scope.md R14). -/

namespace Sys2Proof.Machine

/-- id(n) = (0, 1, ..., n-1) (00_scope.md R14). -/
def idPerm (n : Nat) : Perm := List.range n

/-- m[i] = i for every i (41_perm.md R217). -/
def isId (p : Perm) : Bool := decide (p = idPerm p.length)

/-- compose(p, q) = "first p then q": m'[i] = q.m[p.m[i]] (41_perm.md R205). -/
def compose (p q : Perm) : Perm := p.map fun x => q.getD x 0

/-- Every a[i] < n and all a[i] distinct, n being the number of entries (41_perm.md R214). -/
def isBijection (a : List Nat) : Bool := a.all (fun x => decide (x < a.length)) && decide a.Nodup

/-- The loop of fromrank over i = n-1 down to 0: c[i] = r div i!, r <- r mod i!, m[i] <- d[c[i]], and d loses that
element. `acc` holds m[i..n-1] (41_perm.md R203; c[0] = 0 because the remaining r is 0 there). -/
def unrankLoop : Nat → Nat → List Nat → Perm → Perm
  | 0, _, _, acc => acc
  | i + 1, r, d, acc =>
    let c := r / i.factorial
    unrankLoop i (r % i.factorial) (d.eraseIdx c) (d.getD c 0 :: acc)

/-- fromrank(n, r), r reduced modulo n! (41_perm.md R203). -/
def fromRank (n r : Nat) : Perm := unrankLoop n (r % n.factorial) (List.range n) []

/-- c_i = the number of j < i with m[j] < m[i] (41_perm.md R204). -/
def rankDigit (m : Perm) (i : Nat) : Nat := (m.take i).countP fun x => decide (x < m.getD i 0)

/-- rank(m) = Σ c_i · i!; the term of i = 0 is 0 (41_perm.md R204). -/
def rank (m : Perm) : Nat := ((List.range m.length).map fun i => rankDigit m i * i.factorial).sum

/-- swap m[i], m[j] (41_perm.md R206). -/
def swapAt (m : Perm) (i j : Nat) : Perm := (m.set i (m.getD j 0)).set j (m.getD i 0)

/-- The Fisher–Yates loop of a size n from position i, one draw a position: j <- i + (draw mod (n - i)), swap m[i],
m[j]; and the number of swaps with i ≠ j (41_perm.md R206, R207). -/
def shuffleLoop (n : Nat) : Nat → List Word → Perm → Nat → Perm × Nat
  | _, [], m, cnt => (m, cnt)
  | i, w :: ws, m, cnt =>
    let j := i + w.toNat % (n - i)
    shuffleLoop n (i + 1) ws (swapAt m i j) (if i = j then cnt else cnt + 1)

/-- shuffle(n) with the n - 1 words it draws (41_perm.md R206). -/
def shuffle (n : Nat) (ws : List Word) : Perm := (shuffleLoop n 0 ws (idPerm n) 0).1

/-- shuffle_odd(n) with the n - 2 words it draws: if the number of swaps is even, the last two entries are swapped
(41_perm.md R207). -/
def shuffleOdd (n : Nat) (ws : List Word) : Perm :=
  let r := shuffleLoop n 0 ws (idPerm n) 0
  if r.2 % 2 = 0 then swapAt r.1 (n - 2) (n - 1) else r.1

/-- The number of draws of shuffle(n) (41_perm.md R206). -/
def shuffleDraws (n : Nat) : Nat := n - 1

/-- The number of draws of shuffle_odd(n) (41_perm.md R207). -/
def shuffleOddDraws (n : Nat) : Nat := n - 2

/-- Some i is a fixed point of both (41_perm.md R223). -/
def shareFixedPoint (p q : Perm) : Bool :=
  (List.range p.length).any fun i => decide (p.getD i 0 = i) && decide (q.getD i 0 = i)

/-- RESULT of PERM_GETIMG: image bytes 8c..8c+7 little-endian, 0 beyond the size (41_perm.md R218; 20_memory.md R84). -/
def imageChunk (p : Perm) (c : Nat) : Word :=
  BitVec.ofNat 64 (((List.range 8).map fun j => p.getD (8 * c + j) 0 * 2 ^ (8 * j)).sum)

/-- IMGBUF with chunk c replaced by the eight bytes of DATA, little-endian (41_perm.md R213; 20_memory.md R84). -/
def stageChunk (buf : Vector Byte 64) (c : Nat) (data : Word) : Vector Byte 64 :=
  Vector.ofFn fun i => if i.val / 8 = c then data.extractLsb' (8 * (i.val % 8)) 8 else buf[i.val]

/-- The image IMGBUF[0..n-1] (41_perm.md R214). -/
def stagedImage (buf : Vector Byte 64) (n : Nat) : List Nat := (buf.toList.take n).map BitVec.toNat

end Sys2Proof.Machine
end

