-- ==== Sys2Proof/Machine/Operands.lean ====
section
/-! DEFINITION. The operand forms (30_encoding.md R116) with the check each one carries, in continuation form: the
check fails with its fault, or the command goes on with the operand's value. -/

namespace Sys2Proof.Machine

/-- A size n in IMM: 1 ≤ n ≤ 64, or BAD_N (41_perm.md R202; 30_encoding.md R116(d)). -/
def withSize (o : Opcode) (n : Nat) (s : State) (k : Out) : Out :=
  if 1 ≤ n ∧ n ≤ 64 then k else raise o .badN s

/-- An index below a limit, or INDEX_RANGE (30_encoding.md R116(e); 20_memory.md R86). -/
def withIndex (o : Opcode) (idx limit : Nat) (s : State) (k : Out) : Out :=
  if idx < limit then k else raise o .indexRange s

/-- A PR operand read as a permutation: EMPTY_OPERAND if it is EMPTY (41_perm.md R200). -/
def withPerm (o : Opcode) (r : PReg) (s : State) (k : Perm → Out) : Out :=
  match s.getPr r with
  | none => raise o .emptyOperand s
  | some p => k p

/-- Two PR operands, checked in field order RS1, RS2 (41_perm.md R200). -/
def withPerms (o : Opcode) (r1 r2 : PReg) (s : State) (k : Perm → Perm → Out) : Out :=
  withPerm o r1 s fun p => withPerm o r2 s fun q => k p q

/-- A power-table unit: EMPTY_OPERAND if it is INVALID (42_powertable.md R253 to R255). -/
def withTable (o : Opcode) (u : PtUnit) (s : State) (k : PowerTable → Out) : Out :=
  match s.getPt u with
  | none => raise o .emptyOperand s
  | some g => k g

/-- Two permutations of equal size, or SIZE_MISMATCH (41_perm.md R201). -/
def withEqualSizes (o : Opcode) (n1 n2 : Nat) (s : State) (k : Out) : Out :=
  if n1 = n2 then k else raise o .sizeMismatch s

/-- The entry T[e] of a table with e < k, or PT_INDEX (42_powertable.md R251). A table whose list is shorter than its
k does not occur (10_state.md R41); it faults in the same way. -/
def withEntry (o : Opcode) (g : PowerTable) (e : Nat) (s : State) (k : Perm → Out) : Out :=
  if e < g.k then
    match g.tab[e]? with
    | some x => k x
    | none => raise o .ptIndex s
  else raise o .ptIndex s

/-- A BigUInt result below CAP is written to BR[rd]; otherwise CAPACITY and nothing is written (40_biguint.md R151). -/
def writeBig (o : Opcode) (rd : BReg) (v : Nat) (s : State) : Out :=
  if v < s.cap then done (s.setBr rd v) else raise o .capacity s

end Sys2Proof.Machine
end

