-- ==== Sys2Proof/Machine/Big.lean ====
section
/-! DEFINITION. The BigUInt commands (40_biguint.md R155 to R175). -/

namespace Sys2Proof.Machine

/-- BIG_LDI: BR[RD] <- DATA (40_biguint.md R155). -/
def execBigLdi (rd : BReg) (data : Word) (s : State) : Out :=
  unlessFault s (done (s.setBr rd data.toNat))

/-- BIG_LDLIMB: limb IMM of BR[RD] <- DATA[31:0] (40_biguint.md R156). -/
def execBigLdlimb (rd : BReg) (imm : Nat) (data : Word) (s : State) : Out :=
  unlessFault s <| withIndex .bigLdlimb imm s.cfg.bigLimbs s <|
    done (s.setBr rd (setLimb (s.getBr rd) imm (data.extractLsb' 0 32).toNat))

/-- BIG_HEXIN: BR[RD] <- BR[RD]·16 + digit (40_biguint.md R157). -/
def execBigHexin (rd : BReg) (data : Word) (s : State) : Out :=
  unlessFault s <|
    match hexValue? data.toNat with
    | none => raise .bigHexin .invalidHexDigit s
    | some d => writeBig .bigHexin rd (s.getBr rd * 16 + d) s

/-- BIG_MOV (40_biguint.md R158). -/
def execBigMov (rd rs1 : BReg) (s : State) : Out :=
  unlessFault s (done (s.setBr rd (s.getBr rs1)))

/-- BIG_ADD (40_biguint.md R159). -/
def execBigAdd (rd rs1 rs2 : BReg) (s : State) : Out :=
  unlessFault s (writeBig .bigAdd rd (s.getBr rs1 + s.getBr rs2) s)

/-- BIG_SUB, saturating at zero (40_biguint.md R160). -/
def execBigSub (rd rs1 rs2 : BReg) (s : State) : Out :=
  unlessFault s (done (s.setBr rd (s.getBr rs1 - s.getBr rs2)))

/-- BIG_MUL (40_biguint.md R161). -/
def execBigMul (rd rs1 rs2 : BReg) (s : State) : Out :=
  unlessFault s (writeBig .bigMul rd (s.getBr rs1 * s.getBr rs2) s)

/-- BIG_DIV, rounded toward zero (40_biguint.md R162). -/
def execBigDiv (rd rs1 rs2 : BReg) (s : State) : Out :=
  unlessFault s <|
    if s.getBr rs2 = 0 then raise .bigDiv .divZero s else done (s.setBr rd (s.getBr rs1 / s.getBr rs2))

/-- BIG_REM (40_biguint.md R163). -/
def execBigRem (rd rs1 rs2 : BReg) (s : State) : Out :=
  unlessFault s <|
    if s.getBr rs2 = 0 then raise .bigRem .divZero s else done (s.setBr rd (s.getBr rs1 % s.getBr rs2))

/-- BIG_SHL by DATA (40_biguint.md R164). -/
def execBigShl (rd rs1 : BReg) (data : Word) (s : State) : Out :=
  unlessFault s <|
    if shlOverflows s.cfg.bigLimbs (s.getBr rs1) data.toNat then raise .bigShl .capacity s
    else done (s.setBr rd (shlValue (s.getBr rs1) data.toNat))

/-- BIG_SHR by DATA (40_biguint.md R165). -/
def execBigShr (rd rs1 : BReg) (data : Word) (s : State) : Out :=
  unlessFault s (done (s.setBr rd (shrValue (s.getBr rs1) data.toNat)))

/-- BIG_AND (40_biguint.md R166). -/
def execBigAnd (rd rs1 rs2 : BReg) (s : State) : Out :=
  unlessFault s (done (s.setBr rd (s.getBr rs1 &&& s.getBr rs2)))

/-- BIG_OR (40_biguint.md R167). -/
def execBigOr (rd rs1 rs2 : BReg) (s : State) : Out :=
  unlessFault s (done (s.setBr rd (s.getBr rs1 ||| s.getBr rs2)))

/-- BIG_CMP: all ones for less, 0 for equal, 1 for greater (40_biguint.md R168). -/
def execBigCmp (rs1 rs2 : BReg) (s : State) : Out :=
  unlessFault s <| answer
    (if s.getBr rs1 < s.getBr rs2 then 0xFFFFFFFFFFFFFFFF else if s.getBr rs1 = s.getBr rs2 then 0 else 1) s

/-- BIG_BITCNT (40_biguint.md R169). -/
def execBigBitcnt (rs1 : BReg) (s : State) : Out :=
  unlessFault s (answer (BitVec.ofNat 64 (bitcount (s.getBr rs1))) s)

/-- BIG_TRUNC32 (40_biguint.md R170). -/
def execBigTrunc32 (rs1 : BReg) (s : State) : Out :=
  unlessFault s (answer ((BitVec.ofNat 32 (s.getBr rs1)).setWidth 64) s)

/-- BIG_TRUNC64 (40_biguint.md R171). -/
def execBigTrunc64 (rs1 : BReg) (s : State) : Out :=
  unlessFault s (answer (BitVec.ofNat 64 (s.getBr rs1)) s)

/-- BIG_GETLIMB (40_biguint.md R172). -/
def execBigGetlimb (rs1 : BReg) (imm : Nat) (s : State) : Out :=
  unlessFault s <| withIndex .bigGetlimb imm s.cfg.bigLimbs s <|
    answer (BitVec.ofNat 64 (limb (s.getBr rs1) imm)) s

/-- BIG_NLIMBS (40_biguint.md R173). -/
def execBigNlimbs (rs1 : BReg) (s : State) : Out :=
  unlessFault s (answer (BitVec.ofNat 64 (nlimbs (s.getBr rs1))) s)

/-- BIG_HEXLEN (40_biguint.md R174). -/
def execBigHexlen (rs1 : BReg) (s : State) : Out :=
  unlessFault s (answer (BitVec.ofNat 64 (hexLen (s.getBr rs1))) s)

/-- BIG_HEXDIG (40_biguint.md R175). -/
def execBigHexdig (rs1 : BReg) (imm : Nat) (s : State) : Out :=
  unlessFault s <| withIndex .bigHexdig imm (hexLen (s.getBr rs1)) s <|
    answer (BitVec.ofNat 64 (hexDigit (s.getBr rs1) imm)) s

end Sys2Proof.Machine
end

