-- ==== Sys2Proof/Machine/Flags.lean ====
section
/-! DEFINITION. The status word and the other CSRs (10_state.md R51 to R58). The block has no condition codes: no
command computes a flag (10_state.md R59). -/

namespace Sys2Proof.Machine

/-- CSR ID: "CAYL" in [31:0], revision 1 in [39:32] (10_state.md R52). -/
def csrId : Word := 0x000000014341594C

/-- CSR CFG: BIG_LIMBS [7:0], NUM_BR = 8, NUM_PR = 8, DLEN = 32, PT_DEPTH [55:32] (10_state.md R53). -/
def csrCfg (c : Config) : Word :=
  0#8 ++ BitVec.ofNat 24 c.ptDepth ++ 32#8 ++ 8#8 ++ 8#8 ++ BitVec.ofNat 8 c.bigLimbs

/-- CSR STATUS: FAULT in bit 0, GENOK in bit 1, SEEDED in bit 2 (10_state.md R54). -/
def csrStatus (s : State) : Word :=
  (BitVec.ofBool s.seeded ++ BitVec.ofBool s.genok ++ BitVec.ofBool s.fault).setWidth 64

/-- CSR ENGSTATE: N_ENG in [6:0], t in [12:8], b in bit 16 (10_state.md R57). -/
def csrEngstate (s : State) : Word :=
  (BitVec.ofNat 1 s.b.val ++ 0#3 ++ BitVec.ofNat 5 s.t.val ++ 0#1 ++ BitVec.ofNat 7 s.nEng).setWidth 64

/-- The CSR with a number; none for a reserved one (10_state.md R51, R58). -/
def readCsr (s : State) (c : Nat) : Option Word :=
  match c with
  | 0 => some csrId
  | 1 => some (csrCfg s.cfg)
  | 2 => some (csrStatus s)
  | 3 => some s.errinfo
  | 4 => some s.draws
  | 5 => some (csrEngstate s)
  | _ => none

end Sys2Proof.Machine
end

