-- ==== Sys2Proof/Machine/Control.lean ====
section
/-! DEFINITION. The control commands (44_control.md R330 to R333). They execute while FAULT = 1 (60_exceptions.md
R355). -/

namespace Sys2Proof.Machine

/-- CTL_NOP (44_control.md R330). -/
def execCtlNop (s : State) : Out := done s

/-- CTL_RDCSR: IMM = CSR number (44_control.md R331). -/
def execCtlRdcsr (imm : Nat) (s : State) : Out :=
  match readCsr s imm with
  | some v => answer v s
  | none => raise .ctlRdcsr .badCsr s

/-- CTL_CLRERR (44_control.md R332). -/
def execCtlClrerr (s : State) : Out := done s.clearFault

/-- CTL_SRESET: reset as rst_n does, then respond (44_control.md R333; 70_reset_and_hazards.md R403). -/
def execCtlSreset (s : State) : Out := done s.blockReset

end Sys2Proof.Machine
end

