-- ==== Sys2Proof/Machine/TableOps.lean ====
section
/-! DEFINITION. Orders, power tables and Landau's function (42_powertable.md; 10_state.md R47). -/

namespace Sys2Proof.Machine

/-- LANDAU[0..64] (10_state.md R47). -/
def landauTable : List Nat :=
  [1, 1, 2, 3, 4, 6, 6, 12, 15, 20, 30, 30, 60,
   60, 84, 105, 140, 210, 210, 420, 420, 420, 420, 840, 840, 1260,
   1260, 1540, 2310, 2520, 4620, 4620, 5460, 5460, 9240, 9240, 13860, 13860, 16380,
   16380, 27720, 30030, 32760, 60060, 60060, 60060, 60060, 120120, 120120, 180180, 180180, 180180,
   180180, 360360, 360360, 360360, 360360, 471240, 510510, 556920, 1021020, 1021020, 1141140, 1141140, 2042040]

/-- L(n) for n ≤ 64 (10_state.md R47). -/
def landauOf (n : Nat) : Nat := landauTable.getD n 0

/-- The loop of ptbuild, counting only: q = p^k, and the first k at which q is the identity, within `fuel` tests
(42_powertable.md R250; log 10). -/
def orderLoop (p : Perm) : Nat → Perm → Nat → Option Nat
  | 0, _, _ => none
  | fuel + 1, q, k => if isId q then some k else orderLoop p fuel (compose q p) (k + 1)

/-- ord(p) if it is at most `bound`, none if it is larger (42_powertable.md R250, R252; log 10). -/
def orderUpTo (bound : Nat) (p : Perm) : Option Nat := orderLoop p bound p 1

/-- ord(p) = L(p.n), the requirement on a generator (43_engine.md R284, R286). -/
def hasLandauOrder (n : Nat) (p : Perm) : Bool := decide (orderUpTo (landauOf n) p = some (landauOf n))

/-- q, q·p, q·p·p, ...: k entries. -/
def powersFrom (p : Perm) : Nat → Perm → List Perm
  | 0, _ => []
  | k + 1, q => q :: powersFrom p k (compose q p)

/-- The table of p with order k: T[i] = p^i for i < k (42_powertable.md R250, R251). -/
def ptBuild (p : Perm) (k : Nat) : PowerTable where
  n := p.length
  k := k
  tab := powersFrom p k (idPerm p.length)

end Sys2Proof.Machine
end

