-- ==== Sys2Proof/Machine/EngineOps.lean ====
section
/-! DEFINITION. The engine functions of 43_engine.md section 1: generator selection, seeding, the step, the mixer and
the output. -/

namespace Sys2Proof.Machine

/-- The outcome of variant-A selection on the words supplied so far. -/
inductive Selection where
  /-- The pair is accepted and `rest` is not drawn. -/
  | accepted (g0 g1 : Perm) (rest : List Word)
  /-- The words run out in an attempt that has taken the words `attempt`. -/
  | starved (attempt : List Word)
deriving DecidableEq, Repr

/-- The attempt loop of variant A (43_engine.md R284): an attempt stops at its first failed requirement and a new one
begins at step 1. Every attempt draws n - 1 words or more, so a fuel above the number of words is never used up for
n ≥ 2 (log 11). -/
def selectLoop (n : Nat) : Nat → List Word → Selection
  | 0, ws => .starved ws
  | fuel + 1, ws =>
    if ws.length < shuffleDraws n then .starved ws
    else
      let g0 := shuffle n (ws.take (shuffleDraws n))
      let ws1 := ws.drop (shuffleDraws n)
      if hasLandauOrder n g0 = false then selectLoop n fuel ws1
      else if ws1.length < shuffleOddDraws n then .starved ws
      else
        let g1 := shuffleOdd n (ws1.take (shuffleOddDraws n))
        let ws2 := ws1.drop (shuffleOddDraws n)
        if hasLandauOrder n g1 = false then selectLoop n fuel ws2
        else if shareFixedPoint g0 g1 then selectLoop n fuel ws2
        else .accepted g0 g1 ws2

/-- select_a(n) on the words supplied so far (43_engine.md R284). -/
def selectA (n : Nat) (ws : List Word) : Selection := selectLoop n (ws.length + 1) ws

/-- The sizes for which variant A has no pair (43_engine.md R285). -/
def noVariantA (n : Nat) : Bool := decide (n = 1 ∨ n = 3 ∨ n = 8 ∨ n = 15)

/-- PT[0] <- ptbuild(g0); PT[1] <- ptbuild(g1); N_ENG <- n; GENOK <- 1; SEEDED <- 0, for generators of order L(n)
(43_engine.md R290, R291). -/
def State.loadGenerators (s : State) (n : Nat) (g0 g1 : Perm) : State :=
  { s with
    pt := (s.pt.set 0 (some (ptBuild g0 (landauOf n)))).set 1 (some (ptBuild g1 (landauOf n)))
    nEng := n, genok := true, seeded := false }

/-- GENOK <- 0; SEEDED <- 0; N_ENG <- 0 (42_powertable.md R252). -/
def State.dropGenerators (s : State) : State := { s with nEng := 0, genok := false, seeded := false }

/-- reseed(P0) (43_engine.md R287). -/
def State.reseed (s : State) (p0 : Perm) : State :=
  { s with p := some p0, d := s.cfg.dInit, t := 0, b := 0, seeded := true }

/-- e = D[t] mod k (43_engine.md R281). -/
def exponent (s : State) (k : Nat) : Nat := s.d[s.t.val].toNat % k

/-- step(): P <- compose(P, PT[b].T[e]); b <- b xor 1 (43_engine.md R281). None where P, the table or the entry is
missing, which 10_state.md R50 rules out in stage 3 (log 13). -/
def State.engineStep (s : State) : Option State :=
  match s.p, s.getPt s.b with
  | some p, some g =>
    match g.tab[exponent s g.k]? with
    | some x => some { s with p := some (compose p x), b := s.b + 1 }
    | none => none
  | _, _ => none

/-- mix(P) = ⊕ (zext_64(P.m[i]) · KEY[i]) mod 2^64 over the positions of P (43_engine.md R282). -/
def mix (c : Config) (p : Perm) : Word :=
  (List.zipWith (fun x k => BitVec.ofNat 64 x * k) p c.key.toList).foldl (fun acc y => acc ^^^ y) 0

/-- D[t] <- num; t <- (t + 1) mod 32 (43_engine.md R283). -/
def State.pushDelay (s : State) (num : Word) : State :=
  { s with d := s.d.set s.t.val num, t := s.t + 1 }

/-- rand(): the state after it and the output num xor D[t], t being the new tail (43_engine.md R283). -/
def State.engineRand (s : State) : Option (State × Word) :=
  match s.engineStep with
  | none => none
  | some s1 =>
    match s1.p with
    | none => none
    | some p =>
      let num := mix s1.cfg p
      let s2 := s1.pushDelay num
      some (s2, num ^^^ s2.d[s2.t.val])

/-- The generators are loaded, or NO_GENERATORS (43_engine.md R280). -/
def withGenerators (o : Opcode) (s : State) (k : Out) : Out :=
  if s.genok then k else raise o .noGenerators s

/-- The engine is seeded, or NOT_SEEDED (43_engine.md R280). -/
def withSeeded (o : Opcode) (s : State) (k : Out) : Out :=
  if s.seeded then k else raise o .notSeeded s

/-- The value a seeded engine has by 10_state.md R50; a state without it is broken (log 13). -/
def orBroken {α : Type} (x : Option α) (k : α → Out) : Out :=
  match x with
  | some a => k a
  | none => .fault .engineInvariantBroken

end Sys2Proof.Machine
end

