-- ==== Sys2Proof/Machine/Engine.lean ====
section
/-! DEFINITION. The engine commands (43_engine.md R290 to R298). -/

namespace Sys2Proof.Machine

/-- ENG_GENA: variant-A selection on the words supplied; the command waits in the block while no pair is accepted
(43_engine.md R290; 70_reset_and_hazards.md R417). -/
def execEngGena (imm : Nat) (s : State) : Out :=
  unlessFault s <| withSize .engGena imm s <|
    if noVariantA imm then raise .engGena .noOdd s
    else if s.cfg.ptDepth < landauOf imm then raise .engGena .capacity s
    else
      match selectA imm s.supply with
      | .accepted g0 g1 rest => done ((s.drew rest).loadGenerators imm g0 g1)
      | .starved attempt => .next (s.await (.engGena imm) attempt)

/-- ENG_GENB: RS1, RS2 = the generators' ranks; ORDER_NOT_LANDAU before CAPACITY (43_engine.md R291, R286, R288). -/
def execEngGenb (imm : Nat) (rs1 rs2 : BReg) (s : State) : Out :=
  unlessFault s <| withSize .engGenb imm s <|
    let g0 := fromRank imm (s.getBr rs1)
    let g1 := fromRank imm (s.getBr rs2)
    if hasLandauOrder imm g0 && hasLandauOrder imm g1 then
      if s.cfg.ptDepth < landauOf imm then raise .engGenb .capacity s
      else done (s.loadGenerators imm g0 g1)
    else raise .engGenb .orderNotLandau s

/-- ENG_SEEDR: RS1 = seed (43_engine.md R292). -/
def execEngSeedr (rs1 : BReg) (s : State) : Out :=
  unlessFault s <| withGenerators .engSeedr s <| done (s.reseed (fromRank s.nEng (s.getBr rs1)))

/-- ENG_SEEDU: N_ENG - 1 draws (43_engine.md R293). -/
def execEngSeedu (s : State) : Out :=
  unlessFault s <| withGenerators .engSeedu s <|
    drawing .engSeedu (shuffleDraws s.nEng) s fun ws s' => done (s'.reseed (shuffle s.nEng ws))

/-- ENG_STEP (43_engine.md R294). -/
def execEngStep (s : State) : Out :=
  unlessFault s <| withSeeded .engStep s <| orBroken s.engineStep fun s' => done s'

/-- ENG_RAND (43_engine.md R295). -/
def execEngRand (s : State) : Out :=
  unlessFault s <| withSeeded .engRand s <| orBroken s.engineRand fun r => answer r.2 r.1

/-- ENG_MIX (43_engine.md R296). -/
def execEngMix (s : State) : Out :=
  unlessFault s <| withSeeded .engMix s <| orBroken s.p fun p => answer (mix s.cfg p) s

/-- ENG_GETP (43_engine.md R297). -/
def execEngGetp (rd : PReg) (s : State) : Out :=
  unlessFault s <| withSeeded .engGetp s <| orBroken s.p fun p => done (s.setPr rd p)

/-- ENG_GETD (43_engine.md R298). -/
def execEngGetd (imm : Nat) (s : State) : Out :=
  unlessFault s <|
    if h : imm < 32 then answer s.d[imm] s else raise .engGetd .indexRange s

end Sys2Proof.Machine
end

