-- ==== Sys2Proof/Machine/Perm.lean ====
section
/-! DEFINITION. The permutation commands (41_perm.md R210 to R223). -/

namespace Sys2Proof.Machine

/-- PERM_ID (41_perm.md R210). -/
def execPermId (rd : PReg) (imm : Nat) (s : State) : Out :=
  unlessFault s <| withSize .permId imm s <| done (s.setPr rd (idPerm imm))

/-- PERM_FROMRANK (41_perm.md R211). -/
def execPermFromrank (rd : PReg) (rs1 : BReg) (imm : Nat) (s : State) : Out :=
  unlessFault s <| withSize .permFromrank imm s <| done (s.setPr rd (fromRank imm (s.getBr rs1)))

/-- PERM_RANK (41_perm.md R212). -/
def execPermRank (rd : BReg) (rs1 : PReg) (s : State) : Out :=
  unlessFault s <| withPerm .permRank rs1 s fun p => done (s.setBr rd (rank p))

/-- PERM_LDIMG: eight image bytes into chunk IMM of IMGBUF (41_perm.md R213). -/
def execPermLdimg (imm : Nat) (data : Word) (s : State) : Out :=
  unlessFault s <| withIndex .permLdimg imm 8 s <| done (s.setImg (stageChunk s.imgbuf imm data))

/-- PERM_FROMIMG (41_perm.md R214). -/
def execPermFromimg (rd : PReg) (imm : Nat) (s : State) : Out :=
  unlessFault s <| withSize .permFromimg imm s <|
    if isBijection (stagedImage s.imgbuf imm) then done (s.setPr rd (stagedImage s.imgbuf imm))
    else raise .permFromimg .notBijection s

/-- PERM_GETIMG: the chunk index is checked before the operand (41_perm.md R218, R208). -/
def execPermGetimg (rs1 : PReg) (imm : Nat) (s : State) : Out :=
  unlessFault s <| withIndex .permGetimg imm 8 s <| withPerm .permGetimg rs1 s fun p => answer (imageChunk p imm) s

/-- PERM_SIZE: 0 for EMPTY, without a fault (41_perm.md R219). -/
def execPermSize (rs1 : PReg) (s : State) : Out :=
  unlessFault s <|
    match s.getPr rs1 with
    | none => answer 0 s
    | some p => answer (BitVec.ofNat 64 p.length) s

/-- PERM_MOV (41_perm.md R215). -/
def execPermMov (rd rs1 : PReg) (s : State) : Out :=
  unlessFault s <| withPerm .permMov rs1 s fun p => done (s.setPr rd p)

/-- PERM_MUL (41_perm.md R216). -/
def execPermMul (rd rs1 rs2 : PReg) (s : State) : Out :=
  unlessFault s <| withPerms .permMul rs1 rs2 s fun p q =>
    withEqualSizes .permMul p.length q.length s <| done (s.setPr rd (compose p q))

/-- PERM_ISID (41_perm.md R217). -/
def execPermIsid (rs1 : PReg) (s : State) : Out :=
  unlessFault s <| withPerm .permIsid rs1 s fun p => answer (if isId p then 1 else 0) s

/-- PERM_EQ: different sizes are unequal and do not fault (41_perm.md R220). -/
def execPermEq (rs1 rs2 : PReg) (s : State) : Out :=
  unlessFault s <| withPerms .permEq rs1 rs2 s fun p q => answer (if p = q then 1 else 0) s

/-- PERM_SHUF: n - 1 draws (41_perm.md R221). -/
def execPermShuf (rd : PReg) (imm : Nat) (s : State) : Out :=
  unlessFault s <| withSize .permShuf imm s <|
    drawing (.permShuf rd imm) (shuffleDraws imm) s fun ws s' => done (s'.setPr rd (shuffle imm ws))

/-- PERM_SHUFODD: n - 2 draws, NO_ODD for n = 1 (41_perm.md R222). -/
def execPermShufodd (rd : PReg) (imm : Nat) (s : State) : Out :=
  unlessFault s <| withSize .permShufodd imm s <|
    if imm = 1 then raise .permShufodd .noOdd s
    else drawing (.permShufodd rd imm) (shuffleOddDraws imm) s fun ws s' => done (s'.setPr rd (shuffleOdd imm ws))

/-- PERM_SHAREFIX (41_perm.md R223). -/
def execPermSharefix (rs1 rs2 : PReg) (s : State) : Out :=
  unlessFault s <| withPerms .permSharefix rs1 rs2 s fun p q =>
    withEqualSizes .permSharefix p.length q.length s <| answer (if shareFixedPoint p q then 1 else 0) s

end Sys2Proof.Machine
end

