-- ==== Sys2Proof/Machine/Table.lean ====
section
/-! DEFINITION. The power-table commands and LANDAU (42_powertable.md R252 to R256). -/

namespace Sys2Proof.Machine

/-- PT_INIT: builds the table and unloads the engine's generators; CAPACITY if ord(p) > PT_DEPTH
(42_powertable.md R252). -/
def execPtInit (u : PtUnit) (rs1 : PReg) (s : State) : Out :=
  unlessFault s <| withPerm .ptInit rs1 s fun p =>
    match orderUpTo s.cfg.ptDepth p with
    | none => raise .ptInit .capacity s
    | some k => done (s.setPt u (ptBuild p k)).dropGenerators

/-- PT_ORDER (42_powertable.md R253). -/
def execPtOrder (u : PtUnit) (s : State) : Out :=
  unlessFault s <| withTable .ptOrder u s fun g => answer (BitVec.ofNat 64 g.k) s

/-- PT_FETCH: DATA = e, not reduced (42_powertable.md R254). -/
def execPtFetch (rd : PReg) (u : PtUnit) (data : Word) (s : State) : Out :=
  unlessFault s <| withTable .ptFetch u s fun g =>
    withEntry .ptFetch g data.toNat s fun x => done (s.setPr rd x)

/-- PT_MULPOW (42_powertable.md R255). -/
def execPtMulpow (rd rs1 : PReg) (u : PtUnit) (data : Word) (s : State) : Out :=
  unlessFault s <| withPerm .ptMulpow rs1 s fun x => withTable .ptMulpow u s fun g =>
    withEqualSizes .ptMulpow x.length g.n s <|
      withEntry .ptMulpow g data.toNat s fun y => done (s.setPr rd (compose x y))

/-- LANDAU: n = 0 is legal, n > 64 is BAD_N (42_powertable.md R256). -/
def execLandau (imm : Nat) (s : State) : Out :=
  unlessFault s <|
    if imm ≤ 64 then answer (BitVec.ofNat 64 (landauOf imm)) s else raise .landau .badN s

end Sys2Proof.Machine
end

