-- ==== Sys2Proof/Machine/Dispatch.lean ====
section
/-! DEFINITION. The meaning of every instruction, one arm per constructor. -/

namespace Sys2Proof.Machine

def exec (i : Instr) (s : State) : Host.Outcome State Fault Refusal :=
  match i with
  | .ctlNop => Sys2Proof.Machine.execCtlNop s
  | .ctlRdcsr imm => Sys2Proof.Machine.execCtlRdcsr imm s
  | .ctlClrerr => Sys2Proof.Machine.execCtlClrerr s
  | .ctlSreset => Sys2Proof.Machine.execCtlSreset s
  | .bigLdi rd data => Sys2Proof.Machine.execBigLdi rd data s
  | .bigLdlimb rd imm data => Sys2Proof.Machine.execBigLdlimb rd imm data s
  | .bigHexin rd data => Sys2Proof.Machine.execBigHexin rd data s
  | .bigMov rd rs1 => Sys2Proof.Machine.execBigMov rd rs1 s
  | .bigAdd rd rs1 rs2 => Sys2Proof.Machine.execBigAdd rd rs1 rs2 s
  | .bigSub rd rs1 rs2 => Sys2Proof.Machine.execBigSub rd rs1 rs2 s
  | .bigMul rd rs1 rs2 => Sys2Proof.Machine.execBigMul rd rs1 rs2 s
  | .bigDiv rd rs1 rs2 => Sys2Proof.Machine.execBigDiv rd rs1 rs2 s
  | .bigRem rd rs1 rs2 => Sys2Proof.Machine.execBigRem rd rs1 rs2 s
  | .bigShl rd rs1 data => Sys2Proof.Machine.execBigShl rd rs1 data s
  | .bigShr rd rs1 data => Sys2Proof.Machine.execBigShr rd rs1 data s
  | .bigAnd rd rs1 rs2 => Sys2Proof.Machine.execBigAnd rd rs1 rs2 s
  | .bigOr rd rs1 rs2 => Sys2Proof.Machine.execBigOr rd rs1 rs2 s
  | .bigCmp rs1 rs2 => Sys2Proof.Machine.execBigCmp rs1 rs2 s
  | .bigBitcnt rs1 => Sys2Proof.Machine.execBigBitcnt rs1 s
  | .bigTrunc32 rs1 => Sys2Proof.Machine.execBigTrunc32 rs1 s
  | .bigTrunc64 rs1 => Sys2Proof.Machine.execBigTrunc64 rs1 s
  | .bigGetlimb rs1 imm => Sys2Proof.Machine.execBigGetlimb rs1 imm s
  | .bigNlimbs rs1 => Sys2Proof.Machine.execBigNlimbs rs1 s
  | .bigHexlen rs1 => Sys2Proof.Machine.execBigHexlen rs1 s
  | .bigHexdig rs1 imm => Sys2Proof.Machine.execBigHexdig rs1 imm s
  | .permId rd imm => Sys2Proof.Machine.execPermId rd imm s
  | .permFromrank rd rs1 imm => Sys2Proof.Machine.execPermFromrank rd rs1 imm s
  | .permRank rd rs1 => Sys2Proof.Machine.execPermRank rd rs1 s
  | .permLdimg imm data => Sys2Proof.Machine.execPermLdimg imm data s
  | .permFromimg rd imm => Sys2Proof.Machine.execPermFromimg rd imm s
  | .permGetimg rs1 imm => Sys2Proof.Machine.execPermGetimg rs1 imm s
  | .permSize rs1 => Sys2Proof.Machine.execPermSize rs1 s
  | .permMov rd rs1 => Sys2Proof.Machine.execPermMov rd rs1 s
  | .permMul rd rs1 rs2 => Sys2Proof.Machine.execPermMul rd rs1 rs2 s
  | .permIsid rs1 => Sys2Proof.Machine.execPermIsid rs1 s
  | .permEq rs1 rs2 => Sys2Proof.Machine.execPermEq rs1 rs2 s
  | .permShuf rd imm => Sys2Proof.Machine.execPermShuf rd imm s
  | .permShufodd rd imm => Sys2Proof.Machine.execPermShufodd rd imm s
  | .permSharefix rs1 rs2 => Sys2Proof.Machine.execPermSharefix rs1 rs2 s
  | .ptInit u rs1 => Sys2Proof.Machine.execPtInit u rs1 s
  | .ptOrder u => Sys2Proof.Machine.execPtOrder u s
  | .ptFetch rd u data => Sys2Proof.Machine.execPtFetch rd u data s
  | .ptMulpow rd rs1 u data => Sys2Proof.Machine.execPtMulpow rd rs1 u data s
  | .landau imm => Sys2Proof.Machine.execLandau imm s
  | .engGena imm => Sys2Proof.Machine.execEngGena imm s
  | .engGenb imm rs1 rs2 => Sys2Proof.Machine.execEngGenb imm rs1 rs2 s
  | .engSeedr rs1 => Sys2Proof.Machine.execEngSeedr rs1 s
  | .engSeedu => Sys2Proof.Machine.execEngSeedu s
  | .engStep => Sys2Proof.Machine.execEngStep s
  | .engRand => Sys2Proof.Machine.execEngRand s
  | .engMix => Sys2Proof.Machine.execEngMix s
  | .engGetp rd => Sys2Proof.Machine.execEngGetp rd s
  | .engGetd imm => Sys2Proof.Machine.execEngGetd imm s

end Sys2Proof.Machine
end

