-- ==== Sys2Proof/Machine/Step.lean ====
section
/-! DEFINITION. One step of the machine: one transaction of its ports, and the instruction it executes if any. -/

namespace Sys2Proof.Machine

/-- One step (70_reset_and_hazards.md R418: every command is one step; log 3). -/
def step (s : State) : Host.Outcome State Fault Refusal :=
  match s.transaction with
  | .settle s' => .next s'
  | .execute i s' => exec i s'

/-- The state in which the next step accepts the command with these bits: rst_n is high, no response is outstanding, no
command waits, and the host presents this command (log 4). -/
def State.withFetchWord (s : State) (nbits w : Nat) : State :=
  { s with rstN := true, rsp := none, pending := none, taken := [], cmdQ := [commandOfBits nbits w] }

end Sys2Proof.Machine
end

