-- ==== Sys2Proof/Safety.lean ====
section
/-! DEFINITION. The terms claims are stated in: permutations, powers and orders (00_scope.md R14), valid tables
(10_state.md R41), the invariant of the machine (10_state.md R33, R36, R50), which command may report which fault
(60_exceptions.md R358), and runs of commands. -/

namespace Sys2Proof.Machine

/-! Permutations (00_scope.md R14, R16; 10_state.md R36). -/

/-- A permutation of {0..n-1} for some 1 ≤ n ≤ 64: every entry below n, all distinct (10_state.md R36). -/
abbrev WfPerm (p : Perm) : Prop :=
  (1 ≤ p.length ∧ p.length ≤ 64) ∧ (∀ x ∈ p, x < p.length) ∧ p.Nodup

/-- p^0 = id(n), p^(i+1) = p^i * p (00_scope.md R14). -/
def permPow (p : Perm) : Nat → Perm
  | 0 => idPerm p.length
  | i + 1 => compose (permPow p i) p

/-- k = ord(p), the least k ≥ 1 with p^k = id(n) (00_scope.md R14). -/
def IsOrder (p : Perm) (k : Nat) : Prop :=
  1 ≤ k ∧ permPow p k = idPerm p.length ∧ ∀ j, 1 ≤ j → j < k → permPow p j ≠ idPerm p.length

/-- The number of inversions of an image: pairs i < j with m[j] < m[i] (00_scope.md R16 "inversion count"). -/
def inversions (p : Perm) : Nat :=
  ((Finset.range p.length ×ˢ Finset.range p.length).filter
    fun ij => ij.1 < ij.2 ∧ p.getD ij.2 0 < p.getD ij.1 0).card

/-- rank(m) = Σ over i of c_i · i!, where c_i = |{j < i : m[j] < m[i]}| (41_perm.md R204). -/
def rankSum (p : Perm) : Nat :=
  (Finset.range p.length).sum fun i =>
    ((Finset.range i).filter fun j => p.getD j 0 < p.getD i 0).card * i.factorial

/-- A unit built from a permutation p: T has ord(p) entries and T[i] = p^i (10_state.md R41). -/
def TableOf (g : PowerTable) (p : Perm) : Prop :=
  WfPerm p ∧ g.n = p.length ∧ IsOrder p g.k ∧ g.tab = (List.range g.k).map (permPow p)

/-- A valid unit (10_state.md R41). -/
def ValidTable (g : PowerTable) : Prop := ∃ p, TableOf g p

/-! The invariant of the machine. -/

/-- A command that may wait for a draw, having passed every check before its first draw, and still short of words with
those it has taken (60_exceptions.md R357, R360; 70_reset_and_hazards.md R416). -/
def CanWait (s : State) : Instr → Prop
  | .permShuf _ n => 1 ≤ n ∧ n ≤ 64 ∧ s.taken.length < n - 1
  | .permShufodd _ n => 2 ≤ n ∧ n ≤ 64 ∧ s.taken.length < n - 2
  | .engGena n => 1 ≤ n ∧ n ≤ 64 ∧ noVariantA n = false ∧ landauOf n ≤ s.cfg.ptDepth ∧
      selectA n s.taken = .starved s.taken
  | .engSeedu => s.genok = true ∧ s.taken.length < s.nEng - 1
  | _ => False

/-- What holds of every state a run from reset goes through. -/
structure State.Inv (s : State) : Prop where
  /-- The parameters and read-only memories have the properties of 00_scope.md R8, R9. -/
  cfgWf : s.cfg.Wf
  /-- Every BR value is below 2^(32·BIG_LIMBS) (10_state.md R33). -/
  brBound : ∀ r, s.getBr r < 2 ^ (32 * s.cfg.bigLimbs)
  /-- No PR register holds a non-bijection (10_state.md R36). -/
  prWf : ∀ r p, s.getPr r = some p → WfPerm p
  /-- A valid unit holds the powers of a permutation, at most PT_DEPTH of them (10_state.md R41, R42). -/
  ptValid : ∀ u g, s.getPt u = some g → ValidTable g ∧ g.k ≤ s.cfg.ptDepth
  /-- P, where there is one, is a permutation (10_state.md R44). -/
  pWf : ∀ p, s.p = some p → WfPerm p
  /-- GENOK = 1 implies 1 ≤ N_ENG ≤ 64 and both units valid with size N_ENG and order L(N_ENG) (10_state.md R50a). -/
  genokTables : s.genok = true → (1 ≤ s.nEng ∧ s.nEng ≤ 64) ∧
    ∀ u, ∃ g, s.getPt u = some g ∧ g.n = s.nEng ∧ g.k = landauOf s.nEng
  /-- GENOK = 0 implies N_ENG = 0 and SEEDED = 0 (10_state.md R50b). -/
  noGenerators : s.genok = false → s.nEng = 0 ∧ s.seeded = false
  /-- SEEDED = 1 implies GENOK = 1 and P of size N_ENG (10_state.md R50c). -/
  seededP : s.seeded = true → s.genok = true ∧ ∃ p, s.p = some p ∧ p.length = s.nEng
  /-- ERRINFO is 0 while no fault is latched (10_state.md R55; 44_control.md R332). -/
  noFaultInfo : s.fault = false → s.errinfo = 0
  /-- ERRINFO.CODE of a latched fault is 1, 2 or 3 (60_exceptions.md R356). -/
  faultCode : s.fault = true → s.errinfo.extractLsb' 0 8 = 1 ∨ s.errinfo.extractLsb' 0 8 = 2 ∨
    s.errinfo.extractLsb' 0 8 = 3
  /-- No command in the block: it keeps no words. -/
  noneTaken : s.pending = none → s.taken = []
  /-- A command in the block: no response is outstanding, no fault is latched, and it waits for a draw. -/
  waiting : ∀ i, s.pending = some i → s.rsp = none ∧ s.fault = false ∧ CanWait s i

/-! Numbers and words. -/

/-- v is written with `len` digits to the base `base` and no leading zero; 0 is one digit (10_state.md R34;
40_biguint.md R174). -/
def IsLength (base v len : Nat) : Prop := 1 ≤ len ∧ v < base ^ len ∧ (1 < len → base ^ (len - 1) ≤ v)

/-- mix(P) as 43_engine.md R282 writes it: num <- 0; for i in 0..n-1: num <- num xor (zext_64(P.m[i]) * KEY[i]). -/
def mixSum (c : Config) (p : Perm) : Word :=
  (List.range p.length).foldl (fun num i => num ^^^ BitVec.ofNat 64 (p.getD i 0) * c.key.toList.getD i 0) 0

/-! Sampling (41_perm.md R206, R207). -/

/-- m' is m with the entries at i and j exchanged. -/
def Swapped (m m' : Perm) (i j : Nat) : Prop :=
  m'.length = m.length ∧
  ∀ x, x < m.length → m'.getD x 0 = if x = i then m.getD j 0 else if x = j then m.getD i 0 else m.getD x 0

/-- j <- i + (draw mod (n - i)), the draw of position i being word i. -/
def swapIndex (n : Nat) (ws : List Word) (i : Nat) : Nat := i + (ws.getD i 0).toNat % (n - i)

/-- m is what the swaps of the positions 0..k-1, in order, make of id(n). -/
def SwapRun (n : Nat) (ws : List Word) (k : Nat) (m : Perm) : Prop :=
  ∃ trace : Nat → Perm, trace 0 = List.range n ∧ trace k = m ∧
    ∀ i, i < k → Swapped (trace i) (trace (i + 1)) i (swapIndex n ws i)

/-- The number of positions below k whose swap is effective (i ≠ j). -/
def swapCount (n : Nat) (ws : List Word) (k : Nat) : Nat :=
  ((Finset.range k).filter fun i => i ≠ swapIndex n ws i).card

/-! Faults. -/

/-- The command ends with the fault entry of this cause (60_exceptions.md R356). -/
def FaultsWith (i : Instr) (s : State) (c : Cause) : Prop :=
  exec i s = .next (s.faultEntry i.opcode.code c)

/-- The four commands that execute while FAULT = 1 (60_exceptions.md R355). -/
def isControl (i : Instr) : Bool :=
  match i with
  | .ctlNop => true
  | .ctlRdcsr _ => true
  | .ctlClrerr => true
  | .ctlSreset => true
  | _ => false

/-- The 22 character codes of a hex digit with value d (00_scope.md R15). -/
def IsHexCode (c : Word) (d : Nat) : Prop :=
  (d < 10 ∧ c.toNat = 0x30 + d) ∨ (10 ≤ d ∧ d < 16 ∧ (c.toNat = 0x41 + (d - 10) ∨ c.toNat = 0x61 + (d - 10)))

/-- The checks of each command after the encoding and FaultPending checks, in priority order, each with the fault it
reports (60_exceptions.md R358) and the condition under which it fails, as the command's rule words it. -/
def checks (s : State) : Instr → List (Cause × Prop)
  | .ctlRdcsr c => [(.badCsr, 5 < c)]
  | .bigLdlimb _ k _ => [(.indexRange, s.cfg.bigLimbs ≤ k)]
  | .bigGetlimb _ k => [(.indexRange, s.cfg.bigLimbs ≤ k)]
  | .bigHexdig r k => [(.indexRange, 1 ≤ k ∧ s.getBr r < 16 ^ k)]
  | .bigHexin r c =>
    [(.invalidHexDigit, ¬∃ d, IsHexCode c d),
     (.capacity, ∃ d, IsHexCode c d ∧ 2 ^ (32 * s.cfg.bigLimbs) ≤ s.getBr r * 16 + d)]
  | .bigAdd _ r1 r2 => [(.capacity, 2 ^ (32 * s.cfg.bigLimbs) ≤ s.getBr r1 + s.getBr r2)]
  | .bigMul _ r1 r2 => [(.capacity, 2 ^ (32 * s.cfg.bigLimbs) ≤ s.getBr r1 * s.getBr r2)]
  | .bigShl _ r1 d => [(.capacity, 2 ^ (32 * s.cfg.bigLimbs) ≤ s.getBr r1 * 2 ^ d.toNat)]
  | .bigDiv _ _ r2 => [(.divZero, s.getBr r2 = 0)]
  | .bigRem _ _ r2 => [(.divZero, s.getBr r2 = 0)]
  | .permId _ n => [(.badN, n < 1 ∨ 64 < n)]
  | .permFromrank _ _ n => [(.badN, n < 1 ∨ 64 < n)]
  | .permShuf _ n => [(.badN, n < 1 ∨ 64 < n)]
  | .permShufodd _ n => [(.badN, n < 1 ∨ 64 < n), (.noOdd, n = 1)]
  | .permFromimg _ n => [(.badN, n < 1 ∨ 64 < n), (.notBijection, ¬WfPerm (stagedImage s.imgbuf n))]
  | .permRank _ r => [(.emptyOperand, s.getPr r = none)]
  | .permMov _ r => [(.emptyOperand, s.getPr r = none)]
  | .permIsid r => [(.emptyOperand, s.getPr r = none)]
  | .permEq r1 r2 => [(.emptyOperand, s.getPr r1 = none), (.emptyOperand, s.getPr r2 = none)]
  | .permLdimg c _ => [(.indexRange, 8 ≤ c)]
  | .permGetimg r c => [(.indexRange, 8 ≤ c), (.emptyOperand, s.getPr r = none)]
  | .permMul _ r1 r2 =>
    [(.emptyOperand, s.getPr r1 = none), (.emptyOperand, s.getPr r2 = none),
     (.sizeMismatch, (s.getPr r1).map List.length ≠ (s.getPr r2).map List.length)]
  | .permSharefix r1 r2 =>
    [(.emptyOperand, s.getPr r1 = none), (.emptyOperand, s.getPr r2 = none),
     (.sizeMismatch, (s.getPr r1).map List.length ≠ (s.getPr r2).map List.length)]
  | .ptInit _ r =>
    [(.emptyOperand, s.getPr r = none),
     (.capacity, ∃ p, s.getPr r = some p ∧ ∀ k, k ≤ s.cfg.ptDepth → ¬IsOrder p k)]
  | .ptOrder u => [(.emptyOperand, s.getPt u = none)]
  | .ptFetch _ u e => [(.emptyOperand, s.getPt u = none), (.ptIndex, ∃ g, s.getPt u = some g ∧ g.k ≤ e.toNat)]
  | .ptMulpow _ r u e =>
    [(.emptyOperand, s.getPr r = none), (.emptyOperand, s.getPt u = none),
     (.sizeMismatch, (s.getPr r).map List.length ≠ (s.getPt u).map PowerTable.n),
     (.ptIndex, ∃ g, s.getPt u = some g ∧ g.k ≤ e.toNat)]
  | .landau n => [(.badN, 64 < n)]
  | .engGena n =>
    [(.badN, n < 1 ∨ 64 < n), (.noOdd, n = 1 ∨ n = 3 ∨ n = 8 ∨ n = 15), (.capacity, s.cfg.ptDepth < landauOf n)]
  | .engGenb n r1 r2 =>
    [(.badN, n < 1 ∨ 64 < n),
     (.orderNotLandau, ¬(IsOrder (fromRank n (s.getBr r1)) (landauOf n) ∧ IsOrder (fromRank n (s.getBr r2)) (landauOf n))),
     (.capacity, s.cfg.ptDepth < landauOf n)]
  | .engSeedr _ => [(.noGenerators, s.genok = false)]
  | .engSeedu => [(.noGenerators, s.genok = false)]
  | .engStep => [(.notSeeded, s.seeded = false)]
  | .engRand => [(.notSeeded, s.seeded = false)]
  | .engMix => [(.notSeeded, s.seeded = false)]
  | .engGetp _ => [(.notSeeded, s.seeded = false)]
  | .engGetd j => [(.indexRange, 31 < j)]
  | .ctlNop => []
  | .ctlClrerr => []
  | .ctlSreset => []
  | .bigLdi _ _ => []
  | .bigMov _ _ => []
  | .bigSub _ _ _ => []
  | .bigShr _ _ _ => []
  | .bigAnd _ _ _ => []
  | .bigOr _ _ _ => []
  | .bigCmp _ _ => []
  | .bigBitcnt _ => []
  | .bigTrunc32 _ => []
  | .bigTrunc64 _ => []
  | .bigNlimbs _ => []
  | .bigHexlen _ => []
  | .permSize _ => []

/-- The commands that change no state but FAULT and ERRINFO on a fault (20_memory.md R88). -/
def isQuery (i : Instr) : Bool :=
  match i with
  | .ctlRdcsr _ => true
  | .bigCmp _ _ => true
  | .bigBitcnt _ => true
  | .bigTrunc32 _ => true
  | .bigTrunc64 _ => true
  | .bigGetlimb _ _ => true
  | .bigNlimbs _ => true
  | .bigHexlen _ => true
  | .bigHexdig _ _ => true
  | .permGetimg _ _ => true
  | .permSize _ => true
  | .permIsid _ => true
  | .permEq _ _ => true
  | .permSharefix _ _ => true
  | .ptOrder _ => true
  | .landau _ => true
  | .engMix => true
  | .engGetd _ => true
  | _ => false

/-- The only commands that consume words of the uniform-64 channel (20_memory.md R88). -/
def isDrawing (i : Instr) : Bool :=
  match i with
  | .permShuf _ _ => true
  | .permShufodd _ _ => true
  | .engGena _ => true
  | .engSeedu => true
  | _ => false

/-- The commands that may write a BigUInt register (10_state.md R35), reset aside. -/
def brWriters : List Opcode :=
  [.bigLdi, .bigLdlimb, .bigHexin, .bigMov, .bigAdd, .bigSub, .bigMul, .bigDiv, .bigRem, .bigShl, .bigShr, .bigAnd,
   .bigOr, .permRank]

/-- The commands that may write a permutation register (10_state.md R38), reset aside. -/
def prWriters : List Opcode :=
  [.permId, .permFromrank, .permFromimg, .permMov, .permMul, .permShuf, .permShufodd, .ptFetch, .ptMulpow, .engGetp]

/-- The commands that may write a power-table unit (10_state.md R41), reset aside. -/
def ptWriters : List Opcode := [.ptInit, .engGena, .engGenb]

/-- The commands that may write P (10_state.md R44), reset aside. -/
def pWriters : List Opcode := [.engSeedr, .engSeedu, .engStep, .engRand]

/-- The commands that may write D or t (10_state.md R45, R46), reset aside. -/
def delayWriters : List Opcode := [.engSeedr, .engSeedu, .engRand]

/-! Encodings. -/

/-- The command word of an instruction: OPC in [7:0], each field at its place of 30_encoding.md R111, zero elsewhere. -/
def WordIs (i : Instr) (opc : Nat) (f : Fields) : Prop :=
  f.imm < 4096 → (encode i).word.toNat =
    opc + f.rd.val * 2 ^ 8 + f.rs1.val * 2 ^ 11 + f.rs2.val * 2 ^ 14 + f.u.val * 2 ^ 17 + f.imm * 2 ^ 20

/-- The reserved OPC values (30_encoding.md R118). -/
def ReservedOpc (c : Nat) : Prop :=
  (0x04 ≤ c ∧ c ≤ 0x0F) ∨ (0x25 ≤ c ∧ c ≤ 0x2F) ∨ (0x3E ≤ c ∧ c ≤ 0x3F) ∨ (0x45 ≤ c ∧ c ≤ 0x4F) ∨ 0x59 ≤ c

/-- The fields a format does not use are zero (30_encoding.md R114, R115 "fields used"). -/
def UnusedZero (f : Fields) : Format → Prop
  | .n => f.rd = 0 ∧ f.rs1 = 0 ∧ f.rs2 = 0 ∧ f.u = 0 ∧ f.imm = 0
  | .i => f.rd = 0 ∧ f.rs1 = 0 ∧ f.rs2 = 0 ∧ f.u = 0
  | .d => f.rs1 = 0 ∧ f.rs2 = 0 ∧ f.u = 0 ∧ f.imm = 0
  | .di => f.rs1 = 0 ∧ f.rs2 = 0 ∧ f.u = 0
  | .ds => f.rs2 = 0 ∧ f.u = 0 ∧ f.imm = 0
  | .dss => f.u = 0 ∧ f.imm = 0
  | .dsi => f.rs2 = 0 ∧ f.u = 0
  | .s => f.rd = 0 ∧ f.rs2 = 0 ∧ f.u = 0 ∧ f.imm = 0
  | .ss => f.rd = 0 ∧ f.u = 0 ∧ f.imm = 0
  | .si => f.rd = 0 ∧ f.rs2 = 0 ∧ f.u = 0
  | .u => f.rd = 0 ∧ f.rs1 = 0 ∧ f.rs2 = 0 ∧ f.imm = 0
  | .us => f.rd = 0 ∧ f.rs2 = 0 ∧ f.imm = 0
  | .du => f.rs1 = 0 ∧ f.rs2 = 0 ∧ f.imm = 0
  | .dsu => f.rs2 = 0 ∧ f.imm = 0
  | .iss => f.rd = 0 ∧ f.u = 0

/-! Reset and the command channel. -/

/-- The block is about to accept this command: rst_n is high, no response is outstanding, no command is in the block,
and the host presents it (10_state.md R61). -/
def Accepts (s : State) (c : Command) (q : List Command) : Prop :=
  s.rstN = true ∧ s.rsp = none ∧ s.pending = none ∧ s.cmdQ = c :: q

/-- Every piece of state but the response channel has its reset value (10_state.md R66). -/
def ResetValues (t : State) : Prop :=
  (∀ r, t.getBr r = 0) ∧ (∀ r, t.getPr r = none) ∧ (∀ x : Fin 64, t.imgbuf[x.val] = 0) ∧ (∀ u, t.getPt u = none) ∧
  t.nEng = 0 ∧ t.genok = false ∧ t.seeded = false ∧ t.p = none ∧ t.d = t.cfg.dInit ∧ t.t = 0 ∧ t.b = 0 ∧
  t.fault = false ∧ t.errinfo = 0 ∧ t.draws = 0 ∧ t.pending = none ∧ t.taken = []

/-! Runs of commands. -/

/-- The state and the RESULT of a command that completes with status 0 at once; none otherwise. -/
def completes (i : Instr) (s : State) : Option (State × Word) :=
  match exec i s with
  | .next t =>
    match t.rsp with
    | some r => if r.status = 0 ∧ t.pending = none then some (t, r.result) else none
    | none => none
  | _ => none

/-- The RESULTs of k ENG_RAND commands in a row, each of them completing; none if one does not. -/
def outputs : Nat → State → Option (List Word)
  | 0, _ => some []
  | k + 1, s =>
    match completes .engRand s with
    | some (t, w) => (outputs k t).map (w :: ·)
    | none => none

/-- BIG_HEXIN of each character in order into BR[rd], each completing; none if one does not (30_encoding.md R121). -/
def hexLoad (rd : BReg) : List Word → State → Option State
  | [], s => some s
  | c :: cs, s =>
    match completes (.bigHexin rd c) s with
    | some (t, _) => hexLoad rd cs t
    | none => none

end Sys2Proof.Machine
end

