-- ==== Sys2Proof/Certificates/Slice0/Obligations.lean ====
section
/-! DEFINITION. The statements for the provers. In every record update, a field that is not named is unchanged: that is
the statement's frame. -/

open Sys2Proof Sys2Proof.Machine

/-! ## Encoding -/

/-- Decode and encode agree: the decoder gives back every instruction whose immediate fits its field
(30_encoding.md R111 to R117). -/
def Obligations.DecodeOfEncode : Prop :=
  ∀ i : Instr, i.wellFormed = true → decode (encode i).word (encode i).data = .ok i

/-- The other direction: a decoded command is well formed, its word is the encoder's, and the DATA it carried matters
only through the instruction (30_encoding.md R113, R114). -/
def Obligations.EncodeOfDecode : Prop :=
  ∀ (w : CmdWord) (data : Word) (i : Instr), decode w data = .ok i →
    i.wellFormed = true ∧ (encode i).word = w ∧ decode w (encode i).data = .ok i

/-- 30_encoding.md R119: a reserved OPC is BAD_OPCODE whatever the other fields hold, and only a known OPC can be
BAD_FIELD. The fault is reported by the step that accepts the command. -/
def Obligations.ReservedOpcodesAreRefused : Prop :=
  (∀ (w : CmdWord) (data : Word),
    (decode w data = .error .badOpcode ↔ ReservedOpc (opcField w).toNat) ∧
    (decode w data = .error .badField → ¬ReservedOpc (opcField w).toNat)) ∧
  (∀ (s : State) (c : Command) (q : List Command), Accepts s c q → ReservedOpc (opcField c.word).toNat →
    step s = .next (({ s with cmdQ := q } : State).faultEntry (opcField c.word) .badOpcode))

/-- 30_encoding.md R114: a known opcode with a nonzero unused field or nonzero RSV raises BAD_FIELD; the mask covers
OPC, RSV and every unused field; a command has one encoding only. -/
def Obligations.UnusedFieldsMustBeZero : Prop :=
  (∀ (w : CmdWord) (data : Word) (o : Opcode), Opcode.ofCode (opcField w) = some o →
    (decode w data = .error .badField ↔ ¬UnusedZero (fieldsOf w) o.format ∨ w.extractLsb' 18 2 ≠ 0) ∧
    (w &&& o.format.mask = o.code.setWidth 32 ↔ UnusedZero (fieldsOf w) o.format ∧ w.extractLsb' 18 2 = 0)) ∧
  (∀ (w1 w2 : CmdWord) (d1 d2 : Word) (i : Instr), decode w1 d1 = .ok i → decode w2 d2 = .ok i → w1 = w2) ∧
  (∀ (s : State) (c : Command) (q : List Command), Accepts s c q → decode c.word c.data = .error .badField →
    step s = .next (({ s with cmdQ := q } : State).faultEntry (opcField c.word) .badField))

/-- Words the spec writes out (30_encoding.md section 6; 44_control.md R330; 60_exceptions.md R356; 70 R406). -/
def Obligations.SpecWordsDecode : Prop :=
  decode 0x00004214 0 = .ok (.bigAdd 2 0 1) ∧
  decode 0x00000010 0x99999 = .ok (.bigLdi 0 0x99999) ∧
  decode 0x00500131 0 = .ok (.permFromrank 1 0 5) ∧
  decode 0x00020242 5 = .ok (.ptFetch 2 1 5) ∧
  decode 0x02008851 0 = .ok (.engGenb 32 1 2) ∧
  decode 0x00200001 0 = .ok (.ctlRdcsr 2) ∧
  decode 0x00000000 7 = .ok .ctlNop ∧
  decode 0x00008817 0 = .ok (.bigDiv 0 1 2) ∧
  decode 0x00001852 0 = .ok (.engSeedr 3) ∧
  decode 0x00000055 0 = .ok .engRand

/-! ## Steps and channels -/

/-- One step executes the command it accepts, and with no command it changes nothing (10_state.md R61; 20_memory.md
R91). That a command which waits for words stands in `pending` and is resumed by executing it again is the model's
choice (log 6), and so is one transaction as one step (log 3). -/
def Obligations.StepRunsTheDecodedInstruction : Prop :=
  (∀ (s : State) (c : Command) (q : List Command) (i : Instr), Accepts s c q → decode c.word c.data = .ok i →
    step s = exec i { s with cmdQ := q }) ∧
  (∀ (s : State) (i : Instr), s.rstN = true → s.rsp = none → s.pending = some i →
    step s = exec i { s with pending := none }) ∧
  (∀ s : State, s.rstN = true → s.rsp = none → s.pending = none → s.cmdQ = [] → step s = .next s)

/-- A reset gives every piece of state its value of R66 and withdraws a draw request; an abandoned command leaves no
response and no effect; the read-only tables stay (70_reset_and_hazards.md R401). That the inputs cmdQ, rngQ, rspReady
and rstN stay is the model's choice (log 7). -/
def Obligations.ResetPinResetsEverything : Prop :=
  ∀ s : State, s.rstN = false → ∃ t, step s = .next t ∧ ResetValues t ∧ t.rsp = none ∧ t.rngReq = false ∧
    t.cfg = s.cfg ∧ t.cmdQ = s.cmdQ ∧ t.rngQ = s.rngQ ∧ t.rspReady = s.rspReady ∧ t.rstN = s.rstN

/-- 10_state.md R66: the state after reset, the channels included. The configuration and the inputs of
`State.reset` are the model's choice (log 1, log 4 to log 7) and nothing is said of them here. -/
def Obligations.ResetState : Prop :=
  ResetValues State.reset ∧ State.reset.cmdReady = true ∧ State.reset.rspValid = false ∧ State.reset.rngReq = false

/-- 70_reset_and_hazards.md R412: an outstanding response is held unchanged until rsp_ready = 1 transfers it, and no
command is accepted before. -/
def Obligations.ResponseIsHeldUntilTaken : Prop :=
  ∀ (s : State) (r : Response), s.rstN = true → s.rsp = some r →
    s.rspValid = true ∧ s.cmdReady = false ∧
    (s.rspReady = false → step s = .next s) ∧
    (s.rspReady = true → step s = .next { s with rsp := none })

/-- 70_reset_and_hazards.md R416: a command short of a word keeps rng_req = 1, answers nothing and changes nothing, step
after step; the command channel is not ready; rst_n ends the wait. -/
def Obligations.DrawWaitsWithoutLimit : Prop :=
  ∀ (s : State) (i : Instr), s.Inv → s.rstN = true → s.pending = some i → s.rngQ = [] →
    step s = .next s ∧ s.rngReq = true ∧ s.rspValid = false ∧ s.cmdReady = false ∧
    ∃ t, step { s with rstN := false } = .next t ∧ t.pending = none ∧ t.rngReq = false

/-! ## Invariants -/

/-- The invariant holds at reset (10_state.md R50, R66). The configuration at reset is the model's choice (log 1,
log 2). -/
def Obligations.ResetKeepsInv : Prop := State.reset.Inv

/-- Every step keeps the invariant: register values below CAP, registers and P bijections, units valid and within
PT_DEPTH, and the engine invariants, which the spec itself derives (10_state.md R33, R36, R41, R42, R50). -/
def Obligations.StepKeepsInv : Prop :=
  ∀ s t : State, s.Inv → step s = .next t → t.Inv

/-- No step stops: the block's faults are responses, and a seeded engine is total (60_exceptions.md R350; 43_engine.md
R281, R295). -/
def Obligations.StepNeverStops : Prop :=
  ∀ s : State, s.Inv → ∃ t, step s = .next t

/-! ## Faults -/

/-- 60_exceptions.md R356, fault entry; and the status codes and sub-causes of R352 to R354. -/
def Obligations.FaultEntryRecordsTheFirstFault : Prop :=
  (∀ (s : State) (opc : Byte) (c : Cause), ∃ info : Word,
    info.toNat = opc.toNat * 2 ^ 16 + c.sub.toNat * 2 ^ 8 + c.code.toNat ∧
    (c.code = 1 ∨ c.code = 2 ∨ c.code = 3) ∧
    s.faultEntry opc c =
      { s with
        fault := true
        errinfo := if s.fault then s.errinfo else info
        rsp := some ⟨c.code, info⟩ }) ∧
  ([.invalidHexDigit, .sizeMismatch, .ptIndex, .badN, .divZero, .notBijection, .emptyOperand, .orderNotLandau,
      .capacity, .notSeeded, .noOdd, .indexRange, .noGenerators, .badOpcode, .badField, .badCsr].map
        fun c : Cause => (c.code, c.sub)) =
    [(1, 0), (2, 1), (2, 2), (2, 3), (2, 4), (2, 5), (2, 6), (2, 7), (2, 8), (2, 9), (2, 10), (2, 11), (2, 12),
     (3, 1), (3, 2), (3, 3)]

/-- 60_exceptions.md R360: a step that brings a response with status 1, 2 or 3 changes FAULT and ERRINFO only, one with
status 4 changes nothing, no other status but 0 occurs, and no drawn word is lost to a fault. -/
def Obligations.FaultsArePrecise : Prop :=
  ∀ (s t : State) (r : Response), s.Inv → s.rsp = none → step s = .next t → t.rsp = some r →
    r.status = 0 ∨
    ∃ c q, s.cmdQ = c :: q ∧
      ((r.status = 4 ∧ r.result = s.errinfo ∧ t = { s with cmdQ := q, rsp := some r }) ∨
       ((r.status = 1 ∨ r.status = 2 ∨ r.status = 3) ∧
        t = { s with
              cmdQ := q, fault := true, errinfo := if s.fault then s.errinfo else r.result, rsp := some r }))

/-- The first failing check of a command, in the priority order of the spec's table, is the fault it reports
(60_exceptions.md section 1, the table the spec derives from the exception clauses). -/
def Obligations.FirstFailingCheckIsReported : Prop :=
  ∀ (s : State) (i : Instr) (pre post : List (Cause × Prop)) (c : Cause) (P : Prop),
    (s.fault = false ∨ isControl i = true) → checks s i = pre ++ (c, P) :: post → (∀ x ∈ pre, ¬x.2) → P →
    FaultsWith i s c

/-- A command none of whose checks fails completes with status 0; a drawing command completes or waits in the block
(60_exceptions.md R350, R357; 70 R416). -/
def Obligations.CommandCompletesWhenNoCheckFails : Prop :=
  ∀ (s : State) (i : Instr), s.Inv → s.pending = none → (s.fault = false ∨ isControl i = true) →
    (∀ x ∈ checks s i, ¬x.2) →
    ∃ t, exec i s = .next t ∧
      ((∃ v, t.rsp = some ⟨0, v⟩ ∧ t.pending = none) ∨
       (isDrawing i = true ∧ t.rsp = s.rsp ∧ t.pending = some i))

/-- 60_exceptions.md R355: while FAULT = 1 a command other than the four CTL commands changes nothing, draws nothing
and answers status 4 with RESULT = ERRINFO. The four execute normally: each has its own effect, CTL_RDCSR reads STATUS
with FAULT = 1 and the latched ERRINFO and every other CSR as with FAULT = 0, and its BAD_CSR keeps the latched
ERRINFO. -/
def Obligations.FaultPendingChangesNothing : Prop :=
  ∀ (s : State) (i : Instr), s.fault = true →
    (i.opcode ∉ [.ctlNop, .ctlRdcsr, .ctlClrerr, .ctlSreset] →
      exec i s = .next { s with rsp := some ⟨4, s.errinfo⟩ }) ∧
    (i = .ctlNop → exec i s = .next { s with rsp := some ⟨0, 0⟩ }) ∧
    (i = .ctlClrerr → exec i s = .next { s with fault := false, errinfo := 0, rsp := some ⟨0, 0⟩ }) ∧
    (i = .ctlSreset → ∃ t, exec i s = .next t ∧ ResetValues t ∧ t.rsp = some ⟨0, 0⟩ ∧ t.cfg = s.cfg) ∧
    ∀ c, i = .ctlRdcsr c →
      (5 < c → exec i s = .next { s with rsp := some ⟨3, 0x010303⟩ }) ∧
      (c ≤ 5 → ∃ v : Word, exec i s = .next { s with rsp := some ⟨0, v⟩ } ∧
        (c = 2 → v.toNat = 1 + 2 * s.genok.toNat + 4 * s.seeded.toNat) ∧
        (c = 3 → v = s.errinfo) ∧
        (c ≠ 2 → exec i { s with fault := false } = .next { s with fault := false, rsp := some ⟨0, v⟩ }))

/-! ## Control -/

/-- 44_control.md R330, R332, R333 and 70_reset_and_hazards.md R403: CTL_NOP changes nothing, also while FAULT = 1;
CTL_CLRERR clears FAULT and ERRINFO; CTL_SRESET resets every piece of state, then answers, and once the answer is taken
the block is as after a hardware reset. -/
def Obligations.ControlCommands : Prop :=
  WordIs .ctlNop 0x00 {} ∧ WordIs .ctlClrerr 0x02 {} ∧ WordIs .ctlSreset 0x03 {} ∧
  (∀ (w : CmdWord) (data : Word), decode w data = .ok .ctlNop ↔ w = 0) ∧
  ∀ s : State,
    exec .ctlNop s = .next { s with rsp := some ⟨0, 0⟩ } ∧
    exec .ctlClrerr s = .next { s with fault := false, errinfo := 0, rsp := some ⟨0, 0⟩ } ∧
    ∃ t, exec .ctlSreset s = .next t ∧ ResetValues t ∧ t.rsp = some ⟨0, 0⟩ ∧ t.cfg = s.cfg ∧
      step { s with rstN := false } = .next { t with rsp := none, rstN := false }

/-- 44_control.md R331 with the registers of 10_state.md R52, R53, R54 to R57: what each CSR reads, and BAD_CSR. -/
def Obligations.ReadCsr : Prop :=
  ∀ s : State, s.Inv →
    (∀ c, WordIs (.ctlRdcsr c) 0x01 { imm := c }) ∧
    (∀ c, 5 < c → FaultsWith (.ctlRdcsr c) s .badCsr) ∧
    (∀ c, c ≤ 5 → ∃ v : Word, exec (.ctlRdcsr c) s = .next { s with rsp := some ⟨0, v⟩ } ∧
      (c = 0 → v = 0x000000014341594C) ∧
      (c = 1 → v.toNat =
        s.cfg.bigLimbs + 8 * 2 ^ 8 + 8 * 2 ^ 16 + 32 * 2 ^ 24 + s.cfg.ptDepth * 2 ^ 32) ∧
      (c = 2 → v.toNat = s.fault.toNat + 2 * s.genok.toNat + 4 * s.seeded.toNat) ∧
      (c = 3 → v = s.errinfo) ∧
      (c = 4 → v = s.draws) ∧
      (c = 5 → v.toNat = s.nEng + s.t.val * 2 ^ 8 + s.b.val * 2 ^ 16))

/-! ## BigUInt commands -/

/-- 40_biguint.md R155, R156, R158: BIG_LDI, BIG_MOV, and BIG_LDLIMB, which replaces limb k and no other limb, from
DATA[31:0]. -/
def Obligations.BigLoads : Prop :=
  ∀ (s : State) (rd r1 : BReg) (data : Word), s.fault = false →
    WordIs (.bigLdi rd data) 0x10 { rd := rd } ∧
    exec (.bigLdi rd data) s = .next { s with br := s.br.set rd.val data.toNat, rsp := some ⟨0, 0⟩ } ∧
    WordIs (.bigMov rd r1) 0x13 { rd := rd, rs1 := r1 } ∧
    exec (.bigMov rd r1) s = .next { s with br := s.br.set rd.val (s.getBr r1), rsp := some ⟨0, 0⟩ } ∧
    ∀ k, WordIs (.bigLdlimb rd k data) 0x11 { rd := rd, imm := k } ∧
      (s.cfg.bigLimbs ≤ k → FaultsWith (.bigLdlimb rd k data) s .indexRange) ∧
      (k < s.cfg.bigLimbs → ∃ v,
        exec (.bigLdlimb rd k data) s = .next { s with br := s.br.set rd.val v, rsp := some ⟨0, 0⟩ } ∧
        v = s.getBr rd - s.getBr rd / 2 ^ (32 * k) % 2 ^ 32 * 2 ^ (32 * k) + data.toNat % 2 ^ 32 * 2 ^ (32 * k) ∧
        ∀ j, v / 2 ^ (32 * j) % 2 ^ 32 =
          if j = k then data.toNat % 2 ^ 32 else s.getBr rd / 2 ^ (32 * j) % 2 ^ 32)

/-- 40_biguint.md R157, R175: BIG_HEXIN appends one hex digit of either case, or reports the character or the capacity;
BIG_HEXDIG answers character k of the uppercase rendering, 0 being the most significant. -/
def Obligations.BigHexCharacters : Prop :=
  ∀ (s : State) (rd : BReg), s.fault = false →
    (∀ c, WordIs (.bigHexin rd c) 0x12 { rd := rd } ∧
      ((¬∃ d, IsHexCode c d) → FaultsWith (.bigHexin rd c) s .invalidHexDigit) ∧
      ∀ d, IsHexCode c d →
        (2 ^ (32 * s.cfg.bigLimbs) ≤ s.getBr rd * 16 + d → FaultsWith (.bigHexin rd c) s .capacity) ∧
        (s.getBr rd * 16 + d < 2 ^ (32 * s.cfg.bigLimbs) → exec (.bigHexin rd c) s =
          .next { s with br := s.br.set rd.val (s.getBr rd * 16 + d), rsp := some ⟨0, 0⟩ })) ∧
    ∀ k len, IsLength 16 (s.getBr rd) len →
      WordIs (.bigHexdig rd k) 0x24 { rs1 := rd, imm := k } ∧
      (len ≤ k → FaultsWith (.bigHexdig rd k) s .indexRange) ∧
      (k < len → ∃ (d : Nat) (v : Word), d = s.getBr rd / 16 ^ (len - 1 - k) % 16 ∧
        v.toNat = (if d < 10 then 0x30 + d else 0x41 + (d - 10)) ∧
        exec (.bigHexdig rd k) s = .next { s with rsp := some ⟨0, v⟩ })

/-- 40_biguint.md R159, R160, R161: BIG_ADD and BIG_MUL are exact or fault; BIG_SUB saturates at zero. -/
def Obligations.BigAddSubMul : Prop :=
  ∀ (s : State) (rd r1 r2 : BReg), s.fault = false →
    WordIs (.bigAdd rd r1 r2) 0x14 { rd := rd, rs1 := r1, rs2 := r2 } ∧
    (s.getBr r1 + s.getBr r2 < 2 ^ (32 * s.cfg.bigLimbs) → exec (.bigAdd rd r1 r2) s =
      .next { s with br := s.br.set rd.val (s.getBr r1 + s.getBr r2), rsp := some ⟨0, 0⟩ }) ∧
    (2 ^ (32 * s.cfg.bigLimbs) ≤ s.getBr r1 + s.getBr r2 → FaultsWith (.bigAdd rd r1 r2) s .capacity) ∧
    WordIs (.bigSub rd r1 r2) 0x15 { rd := rd, rs1 := r1, rs2 := r2 } ∧
    exec (.bigSub rd r1 r2) s = .next
      { s with
        br := s.br.set rd.val (if s.getBr r2 ≤ s.getBr r1 then s.getBr r1 - s.getBr r2 else 0)
        rsp := some ⟨0, 0⟩ } ∧
    WordIs (.bigMul rd r1 r2) 0x16 { rd := rd, rs1 := r1, rs2 := r2 } ∧
    (s.getBr r1 * s.getBr r2 < 2 ^ (32 * s.cfg.bigLimbs) → exec (.bigMul rd r1 r2) s =
      .next { s with br := s.br.set rd.val (s.getBr r1 * s.getBr r2), rsp := some ⟨0, 0⟩ }) ∧
    (2 ^ (32 * s.cfg.bigLimbs) ≤ s.getBr r1 * s.getBr r2 → FaultsWith (.bigMul rd r1 r2) s .capacity)

/-- 40_biguint.md R162, R163: BIG_DIV and BIG_REM give the quotient and remainder with a = q·b + r and r < b, or report
DIV_ZERO. -/
def Obligations.BigDivRem : Prop :=
  ∀ (s : State) (rd r1 r2 : BReg), s.fault = false →
    WordIs (.bigDiv rd r1 r2) 0x17 { rd := rd, rs1 := r1, rs2 := r2 } ∧
    WordIs (.bigRem rd r1 r2) 0x18 { rd := rd, rs1 := r1, rs2 := r2 } ∧
    (s.getBr r2 = 0 → FaultsWith (.bigDiv rd r1 r2) s .divZero ∧ FaultsWith (.bigRem rd r1 r2) s .divZero) ∧
    (s.getBr r2 ≠ 0 → ∃ q r, s.getBr r1 = q * s.getBr r2 + r ∧ r < s.getBr r2 ∧
      exec (.bigDiv rd r1 r2) s = .next { s with br := s.br.set rd.val q, rsp := some ⟨0, 0⟩ } ∧
      exec (.bigRem rd r1 r2) s = .next { s with br := s.br.set rd.val r, rsp := some ⟨0, 0⟩ })

/-- 40_biguint.md R164, R165: BIG_SHL multiplies by 2^d or faults exactly when a ≠ 0 and bitcount(a) + d exceeds
32·BIG_LIMBS; BIG_SHR divides by 2^d. -/
def Obligations.BigShifts : Prop :=
  ∀ (s : State) (rd r1 : BReg) (d : Word), s.fault = false →
    WordIs (.bigShl rd r1 d) 0x19 { rd := rd, rs1 := r1 } ∧
    (s.getBr r1 * 2 ^ d.toNat < 2 ^ (32 * s.cfg.bigLimbs) → exec (.bigShl rd r1 d) s =
      .next { s with br := s.br.set rd.val (s.getBr r1 * 2 ^ d.toNat), rsp := some ⟨0, 0⟩ }) ∧
    (2 ^ (32 * s.cfg.bigLimbs) ≤ s.getBr r1 * 2 ^ d.toNat → FaultsWith (.bigShl rd r1 d) s .capacity) ∧
    (2 ^ (32 * s.cfg.bigLimbs) ≤ s.getBr r1 * 2 ^ d.toNat ↔
      s.getBr r1 ≠ 0 ∧ 32 * s.cfg.bigLimbs < bitcount (s.getBr r1) + d.toNat) ∧
    WordIs (.bigShr rd r1 d) 0x1A { rd := rd, rs1 := r1 } ∧
    exec (.bigShr rd r1 d) s =
      .next { s with br := s.br.set rd.val (s.getBr r1 / 2 ^ d.toNat), rsp := some ⟨0, 0⟩ }

/-- 40_biguint.md R166, R167, R168: BIG_AND and BIG_OR bit by bit, BIG_CMP's three answers. -/
def Obligations.BigBitwiseAndCompare : Prop :=
  ∀ (s : State) (rd r1 r2 : BReg), s.fault = false →
    WordIs (.bigAnd rd r1 r2) 0x1B { rd := rd, rs1 := r1, rs2 := r2 } ∧
    (∃ v, exec (.bigAnd rd r1 r2) s = .next { s with br := s.br.set rd.val v, rsp := some ⟨0, 0⟩ } ∧
      ∀ k, v.testBit k = ((s.getBr r1).testBit k && (s.getBr r2).testBit k)) ∧
    WordIs (.bigOr rd r1 r2) 0x1C { rd := rd, rs1 := r1, rs2 := r2 } ∧
    (∃ v, exec (.bigOr rd r1 r2) s = .next { s with br := s.br.set rd.val v, rsp := some ⟨0, 0⟩ } ∧
      ∀ k, v.testBit k = ((s.getBr r1).testBit k || (s.getBr r2).testBit k)) ∧
    WordIs (.bigCmp r1 r2) 0x1D { rs1 := r1, rs2 := r2 } ∧
    exec (.bigCmp r1 r2) s = .next
      { s with
        rsp := some ⟨0, if s.getBr r1 < s.getBr r2 then 0xFFFFFFFFFFFFFFFF
                        else if s.getBr r1 = s.getBr r2 then 0 else 1⟩ }

/-- 40_biguint.md R169, R173, R174: the lengths in bits, limbs and hex digits. -/
def Obligations.BigLengths : Prop :=
  ∀ (s : State) (r1 : BReg), s.Inv → s.fault = false →
    WordIs (.bigBitcnt r1) 0x1E { rs1 := r1 } ∧
    (∃ v : Word, exec (.bigBitcnt r1) s = .next { s with rsp := some ⟨0, v⟩ } ∧
      (s.getBr r1 = 0 → v = 0) ∧ (s.getBr r1 ≠ 0 → IsLength 2 (s.getBr r1) v.toNat)) ∧
    WordIs (.bigNlimbs r1) 0x22 { rs1 := r1 } ∧
    (∃ v : Word, exec (.bigNlimbs r1) s = .next { s with rsp := some ⟨0, v⟩ } ∧
      IsLength (2 ^ 32) (s.getBr r1) v.toNat) ∧
    WordIs (.bigHexlen r1) 0x23 { rs1 := r1 } ∧
    (∃ v : Word, exec (.bigHexlen r1) s = .next { s with rsp := some ⟨0, v⟩ } ∧
      IsLength 16 (s.getBr r1) v.toNat)

/-- 40_biguint.md R170, R171, R172: the truncations and one limb. -/
def Obligations.BigTruncationsAndLimb : Prop :=
  ∀ (s : State) (r1 : BReg), s.fault = false →
    WordIs (.bigTrunc32 r1) 0x1F { rs1 := r1 } ∧
    (∃ v : Word, exec (.bigTrunc32 r1) s = .next { s with rsp := some ⟨0, v⟩ } ∧ v.toNat = s.getBr r1 % 2 ^ 32) ∧
    WordIs (.bigTrunc64 r1) 0x20 { rs1 := r1 } ∧
    (∃ v : Word, exec (.bigTrunc64 r1) s = .next { s with rsp := some ⟨0, v⟩ } ∧ v.toNat = s.getBr r1 % 2 ^ 64) ∧
    ∀ k, WordIs (.bigGetlimb r1 k) 0x21 { rs1 := r1, imm := k } ∧
      (s.cfg.bigLimbs ≤ k → FaultsWith (.bigGetlimb r1 k) s .indexRange) ∧
      (k < s.cfg.bigLimbs → ∃ v : Word, exec (.bigGetlimb r1 k) s = .next { s with rsp := some ⟨0, v⟩ } ∧
        v.toNat = s.getBr r1 / 2 ^ (32 * k) % 2 ^ 32)

/-- Loading a normalized hex string of either case and reading it back gives its length and its uppercase characters
(the round trip that 40_biguint.md section 7 derives, with BIG_LDHEX of 30_encoding.md section 6). -/
def Obligations.HexStringsRoundTrip : Prop :=
  ∀ (s : State) (rd : BReg) (cs : List Word) (ds : List Nat), s.fault = false → s.pending = none →
    List.Forall₂ IsHexCode cs ds → (ds = [0] ∨ ∃ d rest, ds = d :: rest ∧ d ≠ 0) →
    ds.length ≤ 8 * s.cfg.bigLimbs → ds.length < 2 ^ 64 →
    ∃ t0 t, completes (.bigLdi rd 0) s = some (t0, 0) ∧ hexLoad rd cs t0 = some t ∧
      (∃ u v, completes (.bigHexlen rd) t = some (u, v) ∧ v.toNat = ds.length) ∧
      ∀ k d, ds[k]? = some d → ∃ u v, completes (.bigHexdig rd k) t = some (u, v) ∧
        v.toNat = if d < 10 then 0x30 + d else 0x41 + (d - 10)

/-- Two commands undo each other: (x + y) - y = x, (x · y) / y = x for y > 0, (x << d) >> d = x, where the first does
not fault (the laws that 40_biguint.md section 7 derives). -/
def Obligations.BigCommandsUndo : Prop :=
  ∀ (s : State) (rd r1 r2 : BReg) (d : Word), s.fault = false → s.pending = none → rd ≠ r2 →
    (s.getBr r1 + s.getBr r2 < 2 ^ (32 * s.cfg.bigLimbs) →
      ∃ t u, completes (.bigAdd rd r1 r2) s = some (t, 0) ∧ completes (.bigSub rd rd r2) t = some (u, 0) ∧
        u.getBr rd = s.getBr r1) ∧
    (0 < s.getBr r2 → s.getBr r1 * s.getBr r2 < 2 ^ (32 * s.cfg.bigLimbs) →
      ∃ t u, completes (.bigMul rd r1 r2) s = some (t, 0) ∧ completes (.bigDiv rd rd r2) t = some (u, 0) ∧
        u.getBr rd = s.getBr r1) ∧
    (s.getBr r1 * 2 ^ d.toNat < 2 ^ (32 * s.cfg.bigLimbs) →
      ∃ t u, completes (.bigShl rd r1 d) s = some (t, 0) ∧ completes (.bigShr rd rd d) t = some (u, 0) ∧
        u.getBr rd = s.getBr r1)

/-! ## Permutation commands -/

/-- 41_perm.md R210, R215: PERM_ID and PERM_MOV. -/
def Obligations.PermIdentityAndMove : Prop :=
  ∀ (s : State) (rd r1 : PReg) (n : Nat), s.fault = false →
    WordIs (.permId rd n) 0x30 { rd := rd, imm := n } ∧
    (n < 1 ∨ 64 < n → FaultsWith (.permId rd n) s .badN) ∧
    (1 ≤ n ∧ n ≤ 64 → exec (.permId rd n) s =
      .next { s with pr := s.pr.set rd.val (some (List.range n)), rsp := some ⟨0, 0⟩ }) ∧
    WordIs (.permMov rd r1) 0x37 { rd := rd, rs1 := r1 } ∧
    (s.getPr r1 = none → FaultsWith (.permMov rd r1) s .emptyOperand) ∧
    (∀ p, s.getPr r1 = some p → exec (.permMov rd r1) s =
      .next { s with pr := s.pr.set rd.val (some p), rsp := some ⟨0, 0⟩ })

/-- PERM_FROMRANK writes a permutation of size n whose rank is r modulo n!, the reversal for 0 and the identity
for n! - 1 (41_perm.md sections 1 and 2; the rank law and the two corner cases are marked derived there). -/
def Obligations.PermFromRank : Prop :=
  ∀ (s : State) (rd : PReg) (r1 : BReg) (n : Nat), s.fault = false →
    WordIs (.permFromrank rd r1 n) 0x31 { rd := rd, rs1 := r1, imm := n } ∧
    (n < 1 ∨ 64 < n → FaultsWith (.permFromrank rd r1 n) s .badN) ∧
    (1 ≤ n ∧ n ≤ 64 → ∃ p, exec (.permFromrank rd r1 n) s =
        .next { s with pr := s.pr.set rd.val (some p), rsp := some ⟨0, 0⟩ } ∧
      WfPerm p ∧ p.length = n ∧ rankSum p = s.getBr r1 % n.factorial ∧
      (s.getBr r1 = 0 → p = (List.range n).reverse) ∧
      (s.getBr r1 % n.factorial = n.factorial - 1 → p = List.range n))

/-- PERM_RANK writes Σ c_i · i!, which is below n!, n! - 1 for the identity and 0 for the reversal (41_perm.md sections
1 and 2; the bound and the two corner cases are marked derived there). -/
def Obligations.PermRank : Prop :=
  ∀ (s : State) (rd : BReg) (r1 : PReg), s.fault = false →
    WordIs (.permRank rd r1) 0x32 { rd := rd, rs1 := r1 } ∧
    (s.getPr r1 = none → FaultsWith (.permRank rd r1) s .emptyOperand) ∧
    (∀ p, s.getPr r1 = some p → WfPerm p →
      exec (.permRank rd r1) s = .next { s with br := s.br.set rd.val (rankSum p), rsp := some ⟨0, 0⟩ } ∧
      rankSum p < p.length.factorial ∧
      (p = List.range p.length → rankSum p = p.length.factorial - 1) ∧
      (p = (List.range p.length).reverse → rankSum p = 0))

/-- rank is a bijection from the permutations of size n to [0, n!), and fromrank is its inverse (41_perm.md section 1;
the spec marks the law derived). -/
def Obligations.RankAndUnrankAreInverse : Prop :=
  (∀ n r : Nat, 1 ≤ n → n ≤ 64 →
    WfPerm (fromRank n r) ∧ (fromRank n r).length = n ∧ rankSum (fromRank n r) = r % n.factorial) ∧
  (∀ p : Perm, WfPerm p → rankSum p < p.length.factorial ∧ fromRank p.length (rankSum p) = p ∧ rank p = rankSum p)

/-- 41_perm.md R213, R214: PERM_LDIMG stages eight bytes, little-endian, and touches no other byte of IMGBUF;
PERM_FROMIMG takes the first n staged bytes if they are a permutation of size n. -/
def Obligations.PermImages : Prop :=
  ∀ (s : State), s.fault = false →
    (∀ (c : Nat) (data : Word),
      WordIs (.permLdimg c data) 0x33 { imm := c } ∧
      (8 ≤ c → FaultsWith (.permLdimg c data) s .indexRange) ∧
      (c < 8 → ∃ buf : Vector Byte 64,
        exec (.permLdimg c data) s = .next { s with imgbuf := buf, rsp := some ⟨0, 0⟩ } ∧
        ∀ x : Fin 64, buf[x.val] =
          if x.val / 8 = c then data.extractLsb' (8 * (x.val % 8)) 8 else s.imgbuf[x.val])) ∧
    ∀ (rd : PReg) (n : Nat) (a : Perm), a = ((List.range n).map fun x => (s.imgbuf.toList.getD x 0).toNat) →
      WordIs (.permFromimg rd n) 0x34 { rd := rd, imm := n } ∧
      (n < 1 ∨ 64 < n → FaultsWith (.permFromimg rd n) s .badN) ∧
      (1 ≤ n → n ≤ 64 → ¬((∀ x ∈ a, x < n) ∧ a.Nodup) → FaultsWith (.permFromimg rd n) s .notBijection) ∧
      (1 ≤ n → n ≤ 64 → (∀ x ∈ a, x < n) ∧ a.Nodup → exec (.permFromimg rd n) s =
        .next { s with pr := s.pr.set rd.val (some a), rsp := some ⟨0, 0⟩ })

/-- 41_perm.md R218, R219: PERM_GETIMG answers eight image bytes, 0 beyond the size; PERM_SIZE the size, 0 for EMPTY. -/
def Obligations.PermReadImageAndSize : Prop :=
  ∀ (s : State) (r1 : PReg), s.fault = false → (∀ p, s.getPr r1 = some p → WfPerm p) →
    (∀ c, WordIs (.permGetimg r1 c) 0x35 { rs1 := r1, imm := c } ∧
      (8 ≤ c → FaultsWith (.permGetimg r1 c) s .indexRange) ∧
      (c < 8 → s.getPr r1 = none → FaultsWith (.permGetimg r1 c) s .emptyOperand) ∧
      (∀ p, c < 8 → s.getPr r1 = some p → ∃ v : Word,
        exec (.permGetimg r1 c) s = .next { s with rsp := some ⟨0, v⟩ } ∧
        ∀ j, j < 8 → (v.extractLsb' (8 * j) 8).toNat = p.getD (8 * c + j) 0)) ∧
    WordIs (.permSize r1) 0x36 { rs1 := r1 } ∧
    (s.getPr r1 = none → exec (.permSize r1) s = .next { s with rsp := some ⟨0, 0⟩ }) ∧
    (∀ p, s.getPr r1 = some p → ∃ v : Word,
      exec (.permSize r1) s = .next { s with rsp := some ⟨0, v⟩ } ∧ v.toNat = p.length)

/-- 41_perm.md R216: PERM_MUL is "first p then q" on permutations of one size, with its faults in operand order. -/
def Obligations.PermMultiply : Prop :=
  ∀ (s : State) (rd r1 r2 : PReg), s.fault = false →
    WordIs (.permMul rd r1 r2) 0x38 { rd := rd, rs1 := r1, rs2 := r2 } ∧
    (s.getPr r1 = none ∨ s.getPr r2 = none → FaultsWith (.permMul rd r1 r2) s .emptyOperand) ∧
    ∀ p q, s.getPr r1 = some p → s.getPr r2 = some q →
      (p.length ≠ q.length → FaultsWith (.permMul rd r1 r2) s .sizeMismatch) ∧
      (p.length = q.length → WfPerm p → WfPerm q → ∃ m,
        exec (.permMul rd r1 r2) s = .next { s with pr := s.pr.set rd.val (some m), rsp := some ⟨0, 0⟩ } ∧
        m.length = p.length ∧ ∀ i, i < p.length → m[i]? = q[p.getD i 0]?)

/-- The permutations of one size are a group under composition, and a product is a permutation (41_perm.md R205;
00_scope.md R14; the bijectivity law is marked derived in 41_perm.md section 1). -/
def Obligations.CompositionIsAGroup : Prop :=
  (∀ p q, WfPerm p → WfPerm q → p.length = q.length → WfPerm (compose p q)) ∧
  (∀ p q r, WfPerm p → WfPerm q → WfPerm r → p.length = q.length → q.length = r.length →
    compose (compose p q) r = compose p (compose q r)) ∧
  (∀ p, WfPerm p → compose p (idPerm p.length) = p ∧ compose (idPerm p.length) p = p ∧
    ∃ q, WfPerm q ∧ q.length = p.length ∧ compose p q = idPerm p.length ∧ compose q p = idPerm p.length)

/-- 41_perm.md R217, R220, R223: the identity, equality and shared-fixed-point tests, position by position. -/
def Obligations.PermTests : Prop :=
  ∀ (s : State) (r1 r2 : PReg), s.fault = false →
    WordIs (.permIsid r1) 0x39 { rs1 := r1 } ∧
    WordIs (.permEq r1 r2) 0x3A { rs1 := r1, rs2 := r2 } ∧
    WordIs (.permSharefix r1 r2) 0x3D { rs1 := r1, rs2 := r2 } ∧
    (s.getPr r1 = none → FaultsWith (.permIsid r1) s .emptyOperand) ∧
    (s.getPr r1 = none ∨ s.getPr r2 = none →
      FaultsWith (.permEq r1 r2) s .emptyOperand ∧ FaultsWith (.permSharefix r1 r2) s .emptyOperand) ∧
    (∀ p, s.getPr r1 = some p → ∃ v : Word, exec (.permIsid r1) s = .next { s with rsp := some ⟨0, v⟩ } ∧
      (v = 0 ∨ v = 1) ∧ (v = 1 ↔ ∀ i, i < p.length → p.getD i 0 = i)) ∧
    (∀ p q, s.getPr r1 = some p → s.getPr r2 = some q →
      (∃ v : Word, exec (.permEq r1 r2) s = .next { s with rsp := some ⟨0, v⟩ } ∧ (v = 0 ∨ v = 1) ∧
        (v = 1 ↔ p.length = q.length ∧ ∀ i, i < p.length → p.getD i 0 = q.getD i 0)) ∧
      (p.length ≠ q.length → FaultsWith (.permSharefix r1 r2) s .sizeMismatch) ∧
      (p.length = q.length → ∃ v : Word,
        exec (.permSharefix r1 r2) s = .next { s with rsp := some ⟨0, v⟩ } ∧ (v = 0 ∨ v = 1) ∧
        (v = 1 ↔ ∃ i, i < p.length ∧ p.getD i 0 = i ∧ q.getD i 0 = i)))

/-- 41_perm.md R221, R222: PERM_SHUF and PERM_SHUFODD of a size with their words on offer take exactly n - 1 and n - 2
of them and write the sampled permutation, which the swap loop of 41_perm.md section 1 makes of id(n): at each position
i entry i is swapped with entry j = i + (w_i mod (n - i)), and PERM_SHUFODD swaps the last two entries at the end if the
number of effective swaps is even. The faults come before any draw. -/
def Obligations.PermSampling : Prop :=
  ∀ (s : State) (rd : PReg) (n : Nat) (ws rest : List Word), s.fault = false → s.taken = [] → s.rngQ = ws ++ rest →
    WordIs (.permShuf rd n) 0x3B { rd := rd, imm := n } ∧
    WordIs (.permShufodd rd n) 0x3C { rd := rd, imm := n } ∧
    (n < 1 ∨ 64 < n → FaultsWith (.permShuf rd n) s .badN ∧ FaultsWith (.permShufodd rd n) s .badN) ∧
    (n = 1 → FaultsWith (.permShufodd rd n) s .noOdd) ∧
    (1 ≤ n → n ≤ 64 → ws.length = n - 1 →
      exec (.permShuf rd n) s = .next
        { s with
          pr := s.pr.set rd.val (some (shuffle n ws)), draws := s.draws + BitVec.ofNat 64 (n - 1)
          rngQ := rest, rsp := some ⟨0, 0⟩ } ∧
      WfPerm (shuffle n ws) ∧ (shuffle n ws).length = n ∧ SwapRun n ws (n - 1) (shuffle n ws)) ∧
    (2 ≤ n → n ≤ 64 → ws.length = n - 2 →
      exec (.permShufodd rd n) s = .next
        { s with
          pr := s.pr.set rd.val (some (shuffleOdd n ws)), draws := s.draws + BitVec.ofNat 64 (n - 2)
          rngQ := rest, rsp := some ⟨0, 0⟩ } ∧
      WfPerm (shuffleOdd n ws) ∧ (shuffleOdd n ws).length = n ∧
      ∃ m, SwapRun n ws (n - 2) m ∧
        (swapCount n ws (n - 2) % 2 = 0 → Swapped m (shuffleOdd n ws) (n - 2) (n - 1)) ∧
        (swapCount n ws (n - 2) % 2 = 1 → shuffleOdd n ws = m))

/-- shuffle(n) gives every permutation of size n for exactly one sequence of residues of its n - 1 draws (41_perm.md
R206). Nothing is said of probabilities: the words are under no law (log 6). -/
def Obligations.ShuffleGivesEachPermutationOnce : Prop :=
  ∀ (n : Nat) (p : Perm), n ≤ 64 → WfPerm p → p.length = n →
    ∃! ds : List Nat, ds.length = n - 1 ∧ (∀ i d, ds[i]? = some d → d < n - i) ∧
      ∀ ws : List Word, ws.length = n - 1 →
        (shuffle n ws = p ↔ ∀ i w, ws[i]? = some w → ds[i]? = some (w.toNat % (n - i)))

/-- shuffle_odd(n) always gives a permutation with an odd inversion count, and each of these for exactly one sequence of
residues of its n - 2 draws (41_perm.md R207 and section 1, where the oddness law is marked derived). Nothing is said of
probabilities. -/
def Obligations.OddShuffleGivesEachOddPermutationOnce : Prop :=
  ∀ n : Nat, 2 ≤ n → n ≤ 64 →
    (∀ ws : List Word, ws.length = n - 2 → inversions (shuffleOdd n ws) % 2 = 1) ∧
    (∀ p : Perm, WfPerm p → p.length = n → inversions p % 2 = 1 →
      ∃! ds : List Nat, ds.length = n - 2 ∧ (∀ i d, ds[i]? = some d → d < n - i) ∧
        ∀ ws : List Word, ws.length = n - 2 →
          (shuffleOdd n ws = p ↔ ∀ i w, ws[i]? = some w → ds[i]? = some (w.toNat % (n - i))))

/-- A command that waits for words and gets them later does what it would have done had they been on offer at once
(20_memory.md R90, R91; 70 R413; how the model holds a waiting command is log 6). -/
def Obligations.WaitingIsTransparent : Prop :=
  ∀ (i : Instr) (s t : State) (ws : List Word), isDrawing i = true → s.fault = false → s.pending = none →
    exec i s = .next t → t.pending = some i →
    t.rngQ = [] ∧ t.rsp = s.rsp ∧
    exec i { t with pending := none, rngQ := ws } = exec i { s with rngQ := s.rngQ ++ ws }

/-! ## Power-table commands -/

/-- 42_powertable.md R252: PT_INIT builds the table of p^0 to p^(ord(p)-1) and unloads the engine's generators, or
reports an EMPTY operand or an order above PT_DEPTH. -/
def Obligations.TableInit : Prop :=
  ∀ (s : State) (u : PtUnit) (r1 : PReg), s.fault = false →
    WordIs (.ptInit u r1) 0x40 { u := u, rs1 := r1 } ∧
    (s.getPr r1 = none → FaultsWith (.ptInit u r1) s .emptyOperand) ∧
    ∀ p k, s.getPr r1 = some p → WfPerm p → IsOrder p k →
      (s.cfg.ptDepth < k → FaultsWith (.ptInit u r1) s .capacity) ∧
      (k ≤ s.cfg.ptDepth → ∃ g, TableOf g p ∧ g.k = k ∧ exec (.ptInit u r1) s = .next
        { s with
          pt := s.pt.set u.val (some g), nEng := 0, genok := false, seeded := false, rsp := some ⟨0, 0⟩ })

/-- 42_powertable.md R251: the entries of a built table multiply by adding indices modulo k, and an index e ≥ k is
PT_INDEX. -/
def Obligations.TableProducts : Prop :=
  (∀ g p, TableOf g p →
    g.tab.length = g.k ∧ g.tab[0]? = some (idPerm p.length) ∧
    (∀ x, g.tab[g.k - 1]? = some x → compose x p = idPerm p.length) ∧
    ∀ i j x y, g.tab[i]? = some x → g.tab[j]? = some y → g.tab[(i + j) % g.k]? = some (compose x y)) ∧
  (∀ (s : State) (rd r1 : PReg) (u : PtUnit) (g : PowerTable) (x : Perm) (e : Word),
    s.fault = false → s.getPt u = some g → g.k ≤ e.toNat →
    FaultsWith (.ptFetch rd u e) s .ptIndex ∧
    (s.getPr r1 = some x → x.length = g.n → FaultsWith (.ptMulpow rd r1 u e) s .ptIndex))

/-- 42_powertable.md R253, R254, R255: PT_ORDER answers k, PT_FETCH writes p^e, PT_MULPOW multiplies by p^e, for e < k,
with their faults in the order of the rules. -/
def Obligations.TableReads : Prop :=
  ∀ (s : State) (rd r1 : PReg) (u : PtUnit) (e : Word), s.fault = false →
    WordIs (.ptOrder u) 0x41 { u := u } ∧
    WordIs (.ptFetch rd u e) 0x42 { rd := rd, u := u } ∧
    WordIs (.ptMulpow rd r1 u e) 0x43 { rd := rd, rs1 := r1, u := u } ∧
    (s.getPt u = none → FaultsWith (.ptOrder u) s .emptyOperand ∧ FaultsWith (.ptFetch rd u e) s .emptyOperand) ∧
    (s.getPr r1 = none ∨ s.getPt u = none → FaultsWith (.ptMulpow rd r1 u e) s .emptyOperand) ∧
    ∀ g p, s.getPt u = some g → TableOf g p → g.k < 2 ^ 64 →
      (∃ v : Word, exec (.ptOrder u) s = .next { s with rsp := some ⟨0, v⟩ } ∧ v.toNat = g.k) ∧
      (g.k ≤ e.toNat → FaultsWith (.ptFetch rd u e) s .ptIndex) ∧
      (e.toNat < g.k → exec (.ptFetch rd u e) s =
        .next { s with pr := s.pr.set rd.val (some (permPow p e.toNat)), rsp := some ⟨0, 0⟩ }) ∧
      ∀ x, s.getPr r1 = some x →
        (x.length ≠ g.n → FaultsWith (.ptMulpow rd r1 u e) s .sizeMismatch) ∧
        (x.length = g.n → g.k ≤ e.toNat → FaultsWith (.ptMulpow rd r1 u e) s .ptIndex) ∧
        (x.length = g.n → e.toNat < g.k → exec (.ptMulpow rd r1 u e) s =
          .next { s with pr := s.pr.set rd.val (some (compose x (permPow p e.toNat))), rsp := some ⟨0, 0⟩ })

/-- 42_powertable.md R256: LANDAU answers L(n) for n ≤ 64, the values of 10_state.md R47 (entries 11 to 64 are marked
derived there). -/
def Obligations.LandauLookup : Prop :=
  ∀ (s : State) (n : Nat), s.fault = false →
    WordIs (.landau n) 0x44 { imm := n } ∧
    (64 < n → FaultsWith (.landau n) s .badN) ∧
    (n ≤ 64 → ∃ v : Word, exec (.landau n) s = .next { s with rsp := some ⟨0, v⟩ } ∧
      [1, 1, 2, 3, 4, 6, 6, 12, 15, 20, 30, 30, 60, 60, 84, 105, 140, 210, 210, 420, 420, 420, 420, 840, 840, 1260, 1260,
        1540, 2310, 2520, 4620, 4620, 5460, 5460, 9240, 9240, 13860, 13860, 16380, 16380, 27720, 30030, 32760, 60060,
        60060, 60060, 60060, 120120, 120120, 180180, 180180, 180180, 180180, 360360, 360360, 360360, 360360, 471240,
        510510, 556920, 1021020, 1021020, 1141140, 1141140, 2042040][n]? = some v.toNat)

/-! ## Engine commands -/

/-- 43_engine.md R290: ENG_GENA's faults, and its first attempt accepted: both tables are built, exactly the words of
the attempt are drawn, and P, D, t and b stay. -/
def Obligations.GeneratorSelectionAccepts : Prop :=
  ∀ (s : State) (n : Nat), s.fault = false →
    WordIs (.engGena n) 0x50 { imm := n } ∧
    (n < 1 ∨ 64 < n → FaultsWith (.engGena n) s .badN) ∧
    (n = 1 ∨ n = 3 ∨ n = 8 ∨ n = 15 → FaultsWith (.engGena n) s .noOdd) ∧
    (1 ≤ n → n ≤ 64 → n ∉ [1, 3, 8, 15] →
      (s.cfg.ptDepth < landauOf n → FaultsWith (.engGena n) s .capacity) ∧
      ∀ w0 w1 rest : List Word, landauOf n ≤ s.cfg.ptDepth → s.taken = [] → s.rngQ = w0 ++ w1 ++ rest →
        w0.length = n - 1 → w1.length = n - 2 →
        IsOrder (shuffle n w0) (landauOf n) → IsOrder (shuffleOdd n w1) (landauOf n) →
        (¬∃ i, i < n ∧ (shuffle n w0).getD i 0 = i ∧ (shuffleOdd n w1).getD i 0 = i) →
        ∃ g0 g1, TableOf g0 (shuffle n w0) ∧ TableOf g1 (shuffleOdd n w1) ∧ exec (.engGena n) s = .next
          { s with
            pt := (s.pt.set 0 (some g0)).set 1 (some g1), nEng := n, genok := true, seeded := false
            draws := s.draws + BitVec.ofNat 64 (2 * n - 3), rngQ := rest, rsp := some ⟨0, 0⟩ })

/-- A failed attempt of ENG_GENA is as if its words had been drawn before the command: n - 1 of them at the first
requirement, 2n - 3 at the second or at the fixed-point test (43_engine.md R284, R290 "Draws"). -/
def Obligations.GeneratorSelectionRetries : Prop :=
  ∀ (s : State) (n : Nat) (w0 w1 ws : List Word), s.fault = false → 1 ≤ n → n ≤ 64 → n ∉ [1, 3, 8, 15] →
    landauOf n ≤ s.cfg.ptDepth → s.taken = [] → w0.length = n - 1 → w1.length = n - 2 →
    (¬IsOrder (shuffle n w0) (landauOf n) →
      exec (.engGena n) { s with rngQ := w0 ++ ws } =
      exec (.engGena n) { s with draws := s.draws + BitVec.ofNat 64 (n - 1), rngQ := ws }) ∧
    (IsOrder (shuffle n w0) (landauOf n) →
      (¬IsOrder (shuffleOdd n w1) (landauOf n) ∨
        ∃ i, i < n ∧ (shuffle n w0).getD i 0 = i ∧ (shuffleOdd n w1).getD i 0 = i) →
      exec (.engGena n) { s with rngQ := w0 ++ w1 ++ ws } =
      exec (.engGena n) { s with draws := s.draws + BitVec.ofNat 64 (2 * n - 3), rngQ := ws })

/-- 43_engine.md R291: ENG_GENB loads the generators of two ranks if both have order L(n), with its faults in order. -/
def Obligations.GeneratorsFromRanks : Prop :=
  ∀ (s : State) (n : Nat) (r1 r2 : BReg), s.fault = false →
    WordIs (.engGenb n r1 r2) 0x51 { imm := n, rs1 := r1, rs2 := r2 } ∧
    (n < 1 ∨ 64 < n → FaultsWith (.engGenb n r1 r2) s .badN) ∧
    ∀ g0 g1, 1 ≤ n → n ≤ 64 → g0 = fromRank n (s.getBr r1) → g1 = fromRank n (s.getBr r2) →
      (¬(IsOrder g0 (landauOf n) ∧ IsOrder g1 (landauOf n)) → FaultsWith (.engGenb n r1 r2) s .orderNotLandau) ∧
      (IsOrder g0 (landauOf n) ∧ IsOrder g1 (landauOf n) →
        (s.cfg.ptDepth < landauOf n → FaultsWith (.engGenb n r1 r2) s .capacity) ∧
        (landauOf n ≤ s.cfg.ptDepth → ∃ t0 t1, TableOf t0 g0 ∧ TableOf t1 g1 ∧ exec (.engGenb n r1 r2) s = .next
          { s with
            pt := (s.pt.set 0 (some t0)).set 1 (some t1), nEng := n, genok := true, seeded := false
            rsp := some ⟨0, 0⟩ }))

/-- 43_engine.md R292, R293: ENG_SEEDR and ENG_SEEDU set P and restart D, t and b; ENG_SEEDU takes N_ENG - 1 words. -/
def Obligations.Seeding : Prop :=
  ∀ (s : State) (r1 : BReg), s.fault = false →
    WordIs (.engSeedr r1) 0x52 { rs1 := r1 } ∧ WordIs .engSeedu 0x53 {} ∧
    (s.genok = false → FaultsWith (.engSeedr r1) s .noGenerators ∧ FaultsWith .engSeedu s .noGenerators) ∧
    (s.genok = true → exec (.engSeedr r1) s = .next
      { s with
        p := some (fromRank s.nEng (s.getBr r1)), d := s.cfg.dInit, t := 0, b := 0, seeded := true
        rsp := some ⟨0, 0⟩ }) ∧
    (∀ ws rest : List Word, s.genok = true → s.taken = [] → s.rngQ = ws ++ rest → ws.length = s.nEng - 1 →
      exec .engSeedu s = .next
        { s with
          p := some (shuffle s.nEng ws), d := s.cfg.dInit, t := 0, b := 0, seeded := true
          draws := s.draws + BitVec.ofNat 64 (s.nEng - 1), rngQ := rest, rsp := some ⟨0, 0⟩ })

/-- 43_engine.md R281, R283, R294, R295: ENG_STEP sets P <- P * G[b]^(D[t] mod k) and flips b; ENG_RAND does the same,
writes the mixer's word at D[t], advances t and answers that word xor the one at the new tail, which is not the word
just written. Neither faults once seeded. -/
def Obligations.EngineStepAndRand : Prop :=
  ∀ s : State, s.Inv → s.fault = false →
    WordIs .engStep 0x54 {} ∧ WordIs .engRand 0x55 {} ∧
    (s.seeded = false → FaultsWith .engStep s .notSeeded ∧ FaultsWith .engRand s .notSeeded) ∧
    (s.seeded = true → ∃ p g q p' num, s.p = some p ∧ s.getPt s.b = some g ∧ TableOf g q ∧ q.length = p.length ∧
      p' = compose p (permPow q (s.d[s.t.val].toNat % g.k)) ∧ num = mixSum s.cfg p' ∧
      exec .engStep s = .next { s with p := some p', b := 1 - s.b, rsp := some ⟨0, 0⟩ } ∧
      exec .engRand s = .next
        { s with
          p := some p', b := 1 - s.b, d := s.d.set s.t.val num, t := s.t + 1
          rsp := some ⟨0, num ^^^ s.d[(s.t + 1).val]⟩ })

/-- 43_engine.md R296, R297, R298: ENG_MIX is the keyed xor of P without a step, ENG_GETP copies P, ENG_GETD reads one
delay-line word in every stage. -/
def Obligations.EngineReads : Prop :=
  ∀ (s : State) (rd : PReg), s.Inv → s.fault = false →
    WordIs .engMix 0x56 {} ∧ WordIs (.engGetp rd) 0x57 { rd := rd } ∧
    (s.seeded = false → FaultsWith .engMix s .notSeeded ∧ FaultsWith (.engGetp rd) s .notSeeded) ∧
    (s.seeded = true → ∃ p, s.p = some p ∧
      exec .engMix s = .next { s with rsp := some ⟨0, mixSum s.cfg p⟩ } ∧
      exec (.engGetp rd) s = .next { s with pr := s.pr.set rd.val (some p), rsp := some ⟨0, 0⟩ }) ∧
    (∀ j, WordIs (.engGetd j) 0x58 { imm := j } ∧ (31 < j → FaultsWith (.engGetd j) s .indexRange)) ∧
    (∀ j : Fin 32, exec (.engGetd j.val) s = .next { s with rsp := some ⟨0, s.d[j.val]⟩ })

/-- The outputs after a seeding depend only on PT[0], PT[1], P0, KEY and D_INIT: two blocks that differ in anything else
give the same outputs for ever (43_engine.md section 1 at seeding, where the spec marks it derived). -/
def Obligations.SeedDeterminesOutputs : Prop :=
  ∀ (i1 i2 : Instr) (s1 s2 t1 t2 : State) (v1 v2 : Word),
    i1.opcode ∈ [.engSeedr, .engSeedu] → i2.opcode ∈ [.engSeedr, .engSeedu] →
    completes i1 s1 = some (t1, v1) → completes i2 s2 = some (t2, v2) →
    s1.pt = s2.pt → t1.p = t2.p → s1.cfg.key = s2.cfg.key → s1.cfg.dInit = s2.cfg.dInit →
    ∀ k, outputs k t1 = outputs k t2

/-! ## Frames -/

/-- The reading commands change nothing but FAULT and ERRINFO on a fault, and a completed one gives the same result
again (20_memory.md section 3 "Side effects", which the spec marks derived). -/
def Obligations.QueriesChangeNothing : Prop :=
  ∀ (i : Instr) (s t : State), isQuery i = true → exec i s = .next t →
    t = { s with fault := t.fault, errinfo := t.errinfo, rsp := t.rsp } ∧
    ∀ v, t.rsp = some ⟨0, v⟩ → t.fault = s.fault ∧ t.errinfo = s.errinfo ∧ exec i t = .next t

/-- Only PERM_SHUF, PERM_SHUFODD, ENG_GENA and ENG_SEEDU take words of the uniform-64 channel; the words are taken from
its front, and DRAWS counts them (20_memory.md section 3; 10_state.md R56). The words a command has taken before are
those of a command that waits, or none, as the invariant says (log 6). -/
def Obligations.OnlyFourCommandsDraw : Prop :=
  ∀ (i : Instr) (s t : State), s.taken = [] ∨ CanWait s i → exec i s = .next t → i ≠ .ctlSreset →
    ∃ ws, s.rngQ = ws ++ t.rngQ ∧ t.draws = s.draws + BitVec.ofNat 64 ws.length ∧
      (i.opcode ∉ [.permShuf, .permShufodd, .engGena, .engSeedu] →
        ws = [] ∧ t.taken = s.taken ∧ t.pending = s.pending)

/-- Which commands write which field of State, CTL_SRESET aside: a register only through its RD field, a unit by PT_INIT
only through its U field, every piece of state only by the commands its rule names; a latched FAULT and its ERRINFO are
changed by CTL_CLRERR alone, and FAULT is set only by a command that reports a fault, with the info word it answers
(10_state.md sections 2 to 7). The response, the wait and the inputs are fields of the model's: only a drawing command
waits or takes words (log 6), and no command changes what the host presents or the levels of the pins (log 4, log 5,
log 7). -/
def Obligations.OnlyNamedCommandsWrite : Prop :=
  ∀ (i : Instr) (s t : State), exec i s = .next t → i ≠ .ctlSreset →
    (∀ r, t.getBr r ≠ s.getBr r → i.opcode ∈ brWriters ∧ r = i.fields.rd) ∧
    (∀ r, t.getPr r ≠ s.getPr r → i.opcode ∈ prWriters ∧ r = i.fields.rd) ∧
    (t.imgbuf ≠ s.imgbuf → i.opcode = .permLdimg) ∧
    (∀ u, t.getPt u ≠ s.getPt u → i.opcode ∈ ptWriters ∧ (i.opcode = .ptInit → u = i.fields.u)) ∧
    (t.nEng ≠ s.nEng ∨ t.genok ≠ s.genok → i.opcode ∈ ptWriters) ∧
    (t.seeded ≠ s.seeded → i.opcode ∈ [.ptInit, .engGena, .engGenb, .engSeedr, .engSeedu]) ∧
    (t.p ≠ s.p ∨ t.b ≠ s.b → i.opcode ∈ pWriters) ∧
    (t.d ≠ s.d ∨ t.t ≠ s.t → i.opcode ∈ delayWriters) ∧
    (s.fault = true → t.fault = false ∨ t.errinfo ≠ s.errinfo → i = .ctlClrerr) ∧
    (s.fault = false → t.fault = true → ∃ r, t.rsp = some r ∧ r.status ∈ [1, 2, 3] ∧ t.errinfo = r.result) ∧
    (s.fault = false → t.fault = false → t.errinfo ≠ s.errinfo → i = .ctlClrerr) ∧
    (t.draws ≠ s.draws ∨ t.rngQ ≠ s.rngQ ∨ t.taken ≠ s.taken ∨ t.pending ≠ s.pending → isDrawing i = true) ∧
    ((∃ r, t.rsp = some r) ∨ (isDrawing i = true ∧ t.pending = some i ∧ t.rsp = s.rsp)) ∧
    t.cfg = s.cfg ∧ t.cmdQ = s.cmdQ ∧ t.rstN = s.rstN ∧ t.rspReady = s.rspReady
end

