-- ==== Sys2Proof/Laws/State.lean ====
section
/-! SUPPORT. What each state update does to each field, true by rfl, and what a register read gives after a register
write. -/

namespace Sys2Proof.Machine

variable (s : State)

/-! setBr. -/

@[simp] theorem State.setBr_cfg (r : BReg) (v : Nat) : (s.setBr r v).cfg = s.cfg := rfl
@[simp] theorem State.setBr_br (r : BReg) (v : Nat) : (s.setBr r v).br = s.br.set r.val v := rfl
@[simp] theorem State.setBr_pr (r : BReg) (v : Nat) : (s.setBr r v).pr = s.pr := rfl
@[simp] theorem State.setBr_imgbuf (r : BReg) (v : Nat) : (s.setBr r v).imgbuf = s.imgbuf := rfl
@[simp] theorem State.setBr_pt (r : BReg) (v : Nat) : (s.setBr r v).pt = s.pt := rfl
@[simp] theorem State.setBr_nEng (r : BReg) (v : Nat) : (s.setBr r v).nEng = s.nEng := rfl
@[simp] theorem State.setBr_genok (r : BReg) (v : Nat) : (s.setBr r v).genok = s.genok := rfl
@[simp] theorem State.setBr_seeded (r : BReg) (v : Nat) : (s.setBr r v).seeded = s.seeded := rfl
@[simp] theorem State.setBr_p (r : BReg) (v : Nat) : (s.setBr r v).p = s.p := rfl
@[simp] theorem State.setBr_d (r : BReg) (v : Nat) : (s.setBr r v).d = s.d := rfl
@[simp] theorem State.setBr_t (r : BReg) (v : Nat) : (s.setBr r v).t = s.t := rfl
@[simp] theorem State.setBr_b (r : BReg) (v : Nat) : (s.setBr r v).b = s.b := rfl
@[simp] theorem State.setBr_fault (r : BReg) (v : Nat) : (s.setBr r v).fault = s.fault := rfl
@[simp] theorem State.setBr_errinfo (r : BReg) (v : Nat) : (s.setBr r v).errinfo = s.errinfo := rfl
@[simp] theorem State.setBr_draws (r : BReg) (v : Nat) : (s.setBr r v).draws = s.draws := rfl
@[simp] theorem State.setBr_rsp (r : BReg) (v : Nat) : (s.setBr r v).rsp = s.rsp := rfl
@[simp] theorem State.setBr_pending (r : BReg) (v : Nat) : (s.setBr r v).pending = s.pending := rfl
@[simp] theorem State.setBr_taken (r : BReg) (v : Nat) : (s.setBr r v).taken = s.taken := rfl
@[simp] theorem State.setBr_rstN (r : BReg) (v : Nat) : (s.setBr r v).rstN = s.rstN := rfl
@[simp] theorem State.setBr_cmdQ (r : BReg) (v : Nat) : (s.setBr r v).cmdQ = s.cmdQ := rfl
@[simp] theorem State.setBr_rspReady (r : BReg) (v : Nat) : (s.setBr r v).rspReady = s.rspReady := rfl
@[simp] theorem State.setBr_rngQ (r : BReg) (v : Nat) : (s.setBr r v).rngQ = s.rngQ := rfl

/-! setPr. -/

@[simp] theorem State.setPr_cfg (r : PReg) (q : Perm) : (s.setPr r q).cfg = s.cfg := rfl
@[simp] theorem State.setPr_br (r : PReg) (q : Perm) : (s.setPr r q).br = s.br := rfl
@[simp] theorem State.setPr_pr (r : PReg) (q : Perm) : (s.setPr r q).pr = s.pr.set r.val (some q) := rfl
@[simp] theorem State.setPr_imgbuf (r : PReg) (q : Perm) : (s.setPr r q).imgbuf = s.imgbuf := rfl
@[simp] theorem State.setPr_pt (r : PReg) (q : Perm) : (s.setPr r q).pt = s.pt := rfl
@[simp] theorem State.setPr_nEng (r : PReg) (q : Perm) : (s.setPr r q).nEng = s.nEng := rfl
@[simp] theorem State.setPr_genok (r : PReg) (q : Perm) : (s.setPr r q).genok = s.genok := rfl
@[simp] theorem State.setPr_seeded (r : PReg) (q : Perm) : (s.setPr r q).seeded = s.seeded := rfl
@[simp] theorem State.setPr_p (r : PReg) (q : Perm) : (s.setPr r q).p = s.p := rfl
@[simp] theorem State.setPr_d (r : PReg) (q : Perm) : (s.setPr r q).d = s.d := rfl
@[simp] theorem State.setPr_t (r : PReg) (q : Perm) : (s.setPr r q).t = s.t := rfl
@[simp] theorem State.setPr_b (r : PReg) (q : Perm) : (s.setPr r q).b = s.b := rfl
@[simp] theorem State.setPr_fault (r : PReg) (q : Perm) : (s.setPr r q).fault = s.fault := rfl
@[simp] theorem State.setPr_errinfo (r : PReg) (q : Perm) : (s.setPr r q).errinfo = s.errinfo := rfl
@[simp] theorem State.setPr_draws (r : PReg) (q : Perm) : (s.setPr r q).draws = s.draws := rfl
@[simp] theorem State.setPr_rsp (r : PReg) (q : Perm) : (s.setPr r q).rsp = s.rsp := rfl
@[simp] theorem State.setPr_pending (r : PReg) (q : Perm) : (s.setPr r q).pending = s.pending := rfl
@[simp] theorem State.setPr_taken (r : PReg) (q : Perm) : (s.setPr r q).taken = s.taken := rfl
@[simp] theorem State.setPr_rstN (r : PReg) (q : Perm) : (s.setPr r q).rstN = s.rstN := rfl
@[simp] theorem State.setPr_cmdQ (r : PReg) (q : Perm) : (s.setPr r q).cmdQ = s.cmdQ := rfl
@[simp] theorem State.setPr_rspReady (r : PReg) (q : Perm) : (s.setPr r q).rspReady = s.rspReady := rfl
@[simp] theorem State.setPr_rngQ (r : PReg) (q : Perm) : (s.setPr r q).rngQ = s.rngQ := rfl

/-! setPt. -/

@[simp] theorem State.setPt_cfg (u : PtUnit) (g : PowerTable) : (s.setPt u g).cfg = s.cfg := rfl
@[simp] theorem State.setPt_br (u : PtUnit) (g : PowerTable) : (s.setPt u g).br = s.br := rfl
@[simp] theorem State.setPt_pr (u : PtUnit) (g : PowerTable) : (s.setPt u g).pr = s.pr := rfl
@[simp] theorem State.setPt_imgbuf (u : PtUnit) (g : PowerTable) : (s.setPt u g).imgbuf = s.imgbuf := rfl
@[simp] theorem State.setPt_pt (u : PtUnit) (g : PowerTable) : (s.setPt u g).pt = s.pt.set u.val (some g) := rfl
@[simp] theorem State.setPt_nEng (u : PtUnit) (g : PowerTable) : (s.setPt u g).nEng = s.nEng := rfl
@[simp] theorem State.setPt_genok (u : PtUnit) (g : PowerTable) : (s.setPt u g).genok = s.genok := rfl
@[simp] theorem State.setPt_seeded (u : PtUnit) (g : PowerTable) : (s.setPt u g).seeded = s.seeded := rfl
@[simp] theorem State.setPt_p (u : PtUnit) (g : PowerTable) : (s.setPt u g).p = s.p := rfl
@[simp] theorem State.setPt_d (u : PtUnit) (g : PowerTable) : (s.setPt u g).d = s.d := rfl
@[simp] theorem State.setPt_t (u : PtUnit) (g : PowerTable) : (s.setPt u g).t = s.t := rfl
@[simp] theorem State.setPt_b (u : PtUnit) (g : PowerTable) : (s.setPt u g).b = s.b := rfl
@[simp] theorem State.setPt_fault (u : PtUnit) (g : PowerTable) : (s.setPt u g).fault = s.fault := rfl
@[simp] theorem State.setPt_errinfo (u : PtUnit) (g : PowerTable) : (s.setPt u g).errinfo = s.errinfo := rfl
@[simp] theorem State.setPt_draws (u : PtUnit) (g : PowerTable) : (s.setPt u g).draws = s.draws := rfl
@[simp] theorem State.setPt_rsp (u : PtUnit) (g : PowerTable) : (s.setPt u g).rsp = s.rsp := rfl
@[simp] theorem State.setPt_pending (u : PtUnit) (g : PowerTable) : (s.setPt u g).pending = s.pending := rfl
@[simp] theorem State.setPt_taken (u : PtUnit) (g : PowerTable) : (s.setPt u g).taken = s.taken := rfl
@[simp] theorem State.setPt_rstN (u : PtUnit) (g : PowerTable) : (s.setPt u g).rstN = s.rstN := rfl
@[simp] theorem State.setPt_cmdQ (u : PtUnit) (g : PowerTable) : (s.setPt u g).cmdQ = s.cmdQ := rfl
@[simp] theorem State.setPt_rspReady (u : PtUnit) (g : PowerTable) : (s.setPt u g).rspReady = s.rspReady := rfl
@[simp] theorem State.setPt_rngQ (u : PtUnit) (g : PowerTable) : (s.setPt u g).rngQ = s.rngQ := rfl

/-! setImg. -/

@[simp] theorem State.setImg_cfg (buf : Vector Byte 64) : (s.setImg buf).cfg = s.cfg := rfl
@[simp] theorem State.setImg_br (buf : Vector Byte 64) : (s.setImg buf).br = s.br := rfl
@[simp] theorem State.setImg_pr (buf : Vector Byte 64) : (s.setImg buf).pr = s.pr := rfl
@[simp] theorem State.setImg_imgbuf (buf : Vector Byte 64) : (s.setImg buf).imgbuf = buf := rfl
@[simp] theorem State.setImg_pt (buf : Vector Byte 64) : (s.setImg buf).pt = s.pt := rfl
@[simp] theorem State.setImg_nEng (buf : Vector Byte 64) : (s.setImg buf).nEng = s.nEng := rfl
@[simp] theorem State.setImg_genok (buf : Vector Byte 64) : (s.setImg buf).genok = s.genok := rfl
@[simp] theorem State.setImg_seeded (buf : Vector Byte 64) : (s.setImg buf).seeded = s.seeded := rfl
@[simp] theorem State.setImg_p (buf : Vector Byte 64) : (s.setImg buf).p = s.p := rfl
@[simp] theorem State.setImg_d (buf : Vector Byte 64) : (s.setImg buf).d = s.d := rfl
@[simp] theorem State.setImg_t (buf : Vector Byte 64) : (s.setImg buf).t = s.t := rfl
@[simp] theorem State.setImg_b (buf : Vector Byte 64) : (s.setImg buf).b = s.b := rfl
@[simp] theorem State.setImg_fault (buf : Vector Byte 64) : (s.setImg buf).fault = s.fault := rfl
@[simp] theorem State.setImg_errinfo (buf : Vector Byte 64) : (s.setImg buf).errinfo = s.errinfo := rfl
@[simp] theorem State.setImg_draws (buf : Vector Byte 64) : (s.setImg buf).draws = s.draws := rfl
@[simp] theorem State.setImg_rsp (buf : Vector Byte 64) : (s.setImg buf).rsp = s.rsp := rfl
@[simp] theorem State.setImg_pending (buf : Vector Byte 64) : (s.setImg buf).pending = s.pending := rfl
@[simp] theorem State.setImg_taken (buf : Vector Byte 64) : (s.setImg buf).taken = s.taken := rfl
@[simp] theorem State.setImg_rstN (buf : Vector Byte 64) : (s.setImg buf).rstN = s.rstN := rfl
@[simp] theorem State.setImg_cmdQ (buf : Vector Byte 64) : (s.setImg buf).cmdQ = s.cmdQ := rfl
@[simp] theorem State.setImg_rspReady (buf : Vector Byte 64) : (s.setImg buf).rspReady = s.rspReady := rfl
@[simp] theorem State.setImg_rngQ (buf : Vector Byte 64) : (s.setImg buf).rngQ = s.rngQ := rfl

/-! respond. -/

@[simp] theorem State.respond_cfg (c : Byte) (v : Word) : (s.respond c v).cfg = s.cfg := rfl
@[simp] theorem State.respond_br (c : Byte) (v : Word) : (s.respond c v).br = s.br := rfl
@[simp] theorem State.respond_pr (c : Byte) (v : Word) : (s.respond c v).pr = s.pr := rfl
@[simp] theorem State.respond_imgbuf (c : Byte) (v : Word) : (s.respond c v).imgbuf = s.imgbuf := rfl
@[simp] theorem State.respond_pt (c : Byte) (v : Word) : (s.respond c v).pt = s.pt := rfl
@[simp] theorem State.respond_nEng (c : Byte) (v : Word) : (s.respond c v).nEng = s.nEng := rfl
@[simp] theorem State.respond_genok (c : Byte) (v : Word) : (s.respond c v).genok = s.genok := rfl
@[simp] theorem State.respond_seeded (c : Byte) (v : Word) : (s.respond c v).seeded = s.seeded := rfl
@[simp] theorem State.respond_p (c : Byte) (v : Word) : (s.respond c v).p = s.p := rfl
@[simp] theorem State.respond_d (c : Byte) (v : Word) : (s.respond c v).d = s.d := rfl
@[simp] theorem State.respond_t (c : Byte) (v : Word) : (s.respond c v).t = s.t := rfl
@[simp] theorem State.respond_b (c : Byte) (v : Word) : (s.respond c v).b = s.b := rfl
@[simp] theorem State.respond_fault (c : Byte) (v : Word) : (s.respond c v).fault = s.fault := rfl
@[simp] theorem State.respond_errinfo (c : Byte) (v : Word) : (s.respond c v).errinfo = s.errinfo := rfl
@[simp] theorem State.respond_draws (c : Byte) (v : Word) : (s.respond c v).draws = s.draws := rfl
@[simp] theorem State.respond_rsp (c : Byte) (v : Word) : (s.respond c v).rsp = some ⟨c, v⟩ := rfl
@[simp] theorem State.respond_pending (c : Byte) (v : Word) : (s.respond c v).pending = s.pending := rfl
@[simp] theorem State.respond_taken (c : Byte) (v : Word) : (s.respond c v).taken = s.taken := rfl
@[simp] theorem State.respond_rstN (c : Byte) (v : Word) : (s.respond c v).rstN = s.rstN := rfl
@[simp] theorem State.respond_cmdQ (c : Byte) (v : Word) : (s.respond c v).cmdQ = s.cmdQ := rfl
@[simp] theorem State.respond_rspReady (c : Byte) (v : Word) : (s.respond c v).rspReady = s.rspReady := rfl
@[simp] theorem State.respond_rngQ (c : Byte) (v : Word) : (s.respond c v).rngQ = s.rngQ := rfl

/-! clearFault. -/

@[simp] theorem State.clearFault_cfg : (s.clearFault).cfg = s.cfg := rfl
@[simp] theorem State.clearFault_br : (s.clearFault).br = s.br := rfl
@[simp] theorem State.clearFault_pr : (s.clearFault).pr = s.pr := rfl
@[simp] theorem State.clearFault_imgbuf : (s.clearFault).imgbuf = s.imgbuf := rfl
@[simp] theorem State.clearFault_pt : (s.clearFault).pt = s.pt := rfl
@[simp] theorem State.clearFault_nEng : (s.clearFault).nEng = s.nEng := rfl
@[simp] theorem State.clearFault_genok : (s.clearFault).genok = s.genok := rfl
@[simp] theorem State.clearFault_seeded : (s.clearFault).seeded = s.seeded := rfl
@[simp] theorem State.clearFault_p : (s.clearFault).p = s.p := rfl
@[simp] theorem State.clearFault_d : (s.clearFault).d = s.d := rfl
@[simp] theorem State.clearFault_t : (s.clearFault).t = s.t := rfl
@[simp] theorem State.clearFault_b : (s.clearFault).b = s.b := rfl
@[simp] theorem State.clearFault_fault : (s.clearFault).fault = false := rfl
@[simp] theorem State.clearFault_errinfo : (s.clearFault).errinfo = 0 := rfl
@[simp] theorem State.clearFault_draws : (s.clearFault).draws = s.draws := rfl
@[simp] theorem State.clearFault_rsp : (s.clearFault).rsp = s.rsp := rfl
@[simp] theorem State.clearFault_pending : (s.clearFault).pending = s.pending := rfl
@[simp] theorem State.clearFault_taken : (s.clearFault).taken = s.taken := rfl
@[simp] theorem State.clearFault_rstN : (s.clearFault).rstN = s.rstN := rfl
@[simp] theorem State.clearFault_cmdQ : (s.clearFault).cmdQ = s.cmdQ := rfl
@[simp] theorem State.clearFault_rspReady : (s.clearFault).rspReady = s.rspReady := rfl
@[simp] theorem State.clearFault_rngQ : (s.clearFault).rngQ = s.rngQ := rfl

/-! drew. -/

@[simp] theorem State.drew_cfg (rest : List Word) : (s.drew rest).cfg = s.cfg := rfl
@[simp] theorem State.drew_br (rest : List Word) : (s.drew rest).br = s.br := rfl
@[simp] theorem State.drew_pr (rest : List Word) : (s.drew rest).pr = s.pr := rfl
@[simp] theorem State.drew_imgbuf (rest : List Word) : (s.drew rest).imgbuf = s.imgbuf := rfl
@[simp] theorem State.drew_pt (rest : List Word) : (s.drew rest).pt = s.pt := rfl
@[simp] theorem State.drew_nEng (rest : List Word) : (s.drew rest).nEng = s.nEng := rfl
@[simp] theorem State.drew_genok (rest : List Word) : (s.drew rest).genok = s.genok := rfl
@[simp] theorem State.drew_seeded (rest : List Word) : (s.drew rest).seeded = s.seeded := rfl
@[simp] theorem State.drew_p (rest : List Word) : (s.drew rest).p = s.p := rfl
@[simp] theorem State.drew_d (rest : List Word) : (s.drew rest).d = s.d := rfl
@[simp] theorem State.drew_t (rest : List Word) : (s.drew rest).t = s.t := rfl
@[simp] theorem State.drew_b (rest : List Word) : (s.drew rest).b = s.b := rfl
@[simp] theorem State.drew_fault (rest : List Word) : (s.drew rest).fault = s.fault := rfl
@[simp] theorem State.drew_errinfo (rest : List Word) : (s.drew rest).errinfo = s.errinfo := rfl
@[simp] theorem State.drew_draws (rest : List Word) :
    (s.drew rest).draws = s.draws + BitVec.ofNat 64 (s.rngQ.length - rest.length) := rfl
@[simp] theorem State.drew_rsp (rest : List Word) : (s.drew rest).rsp = s.rsp := rfl
@[simp] theorem State.drew_pending (rest : List Word) : (s.drew rest).pending = s.pending := rfl
@[simp] theorem State.drew_taken (rest : List Word) : (s.drew rest).taken = [] := rfl
@[simp] theorem State.drew_rstN (rest : List Word) : (s.drew rest).rstN = s.rstN := rfl
@[simp] theorem State.drew_cmdQ (rest : List Word) : (s.drew rest).cmdQ = s.cmdQ := rfl
@[simp] theorem State.drew_rspReady (rest : List Word) : (s.drew rest).rspReady = s.rspReady := rfl
@[simp] theorem State.drew_rngQ (rest : List Word) : (s.drew rest).rngQ = rest := rfl

/-! await. -/

@[simp] theorem State.await_cfg (i : Instr) (kept : List Word) : (s.await i kept).cfg = s.cfg := rfl
@[simp] theorem State.await_br (i : Instr) (kept : List Word) : (s.await i kept).br = s.br := rfl
@[simp] theorem State.await_pr (i : Instr) (kept : List Word) : (s.await i kept).pr = s.pr := rfl
@[simp] theorem State.await_imgbuf (i : Instr) (kept : List Word) : (s.await i kept).imgbuf = s.imgbuf := rfl
@[simp] theorem State.await_pt (i : Instr) (kept : List Word) : (s.await i kept).pt = s.pt := rfl
@[simp] theorem State.await_nEng (i : Instr) (kept : List Word) : (s.await i kept).nEng = s.nEng := rfl
@[simp] theorem State.await_genok (i : Instr) (kept : List Word) : (s.await i kept).genok = s.genok := rfl
@[simp] theorem State.await_seeded (i : Instr) (kept : List Word) : (s.await i kept).seeded = s.seeded := rfl
@[simp] theorem State.await_p (i : Instr) (kept : List Word) : (s.await i kept).p = s.p := rfl
@[simp] theorem State.await_d (i : Instr) (kept : List Word) : (s.await i kept).d = s.d := rfl
@[simp] theorem State.await_t (i : Instr) (kept : List Word) : (s.await i kept).t = s.t := rfl
@[simp] theorem State.await_b (i : Instr) (kept : List Word) : (s.await i kept).b = s.b := rfl
@[simp] theorem State.await_fault (i : Instr) (kept : List Word) : (s.await i kept).fault = s.fault := rfl
@[simp] theorem State.await_errinfo (i : Instr) (kept : List Word) : (s.await i kept).errinfo = s.errinfo := rfl
@[simp] theorem State.await_draws (i : Instr) (kept : List Word) :
    (s.await i kept).draws = s.draws + BitVec.ofNat 64 s.rngQ.length := rfl
@[simp] theorem State.await_rsp (i : Instr) (kept : List Word) : (s.await i kept).rsp = s.rsp := rfl
@[simp] theorem State.await_pending (i : Instr) (kept : List Word) : (s.await i kept).pending = some i := rfl
@[simp] theorem State.await_taken (i : Instr) (kept : List Word) : (s.await i kept).taken = kept := rfl
@[simp] theorem State.await_rstN (i : Instr) (kept : List Word) : (s.await i kept).rstN = s.rstN := rfl
@[simp] theorem State.await_cmdQ (i : Instr) (kept : List Word) : (s.await i kept).cmdQ = s.cmdQ := rfl
@[simp] theorem State.await_rspReady (i : Instr) (kept : List Word) : (s.await i kept).rspReady = s.rspReady := rfl
@[simp] theorem State.await_rngQ (i : Instr) (kept : List Word) : (s.await i kept).rngQ = [] := rfl

/-! blockReset. -/

@[simp] theorem State.blockReset_cfg : (s.blockReset).cfg = s.cfg := rfl
@[simp] theorem State.blockReset_br : (s.blockReset).br = Vector.replicate 8 0 := rfl
@[simp] theorem State.blockReset_pr : (s.blockReset).pr = Vector.replicate 8 none := rfl
@[simp] theorem State.blockReset_imgbuf : (s.blockReset).imgbuf = Vector.replicate 64 0 := rfl
@[simp] theorem State.blockReset_pt : (s.blockReset).pt = Vector.replicate 2 none := rfl
@[simp] theorem State.blockReset_nEng : (s.blockReset).nEng = 0 := rfl
@[simp] theorem State.blockReset_genok : (s.blockReset).genok = false := rfl
@[simp] theorem State.blockReset_seeded : (s.blockReset).seeded = false := rfl
@[simp] theorem State.blockReset_p : (s.blockReset).p = none := rfl
@[simp] theorem State.blockReset_d : (s.blockReset).d = s.cfg.dInit := rfl
@[simp] theorem State.blockReset_t : (s.blockReset).t = 0 := rfl
@[simp] theorem State.blockReset_b : (s.blockReset).b = 0 := rfl
@[simp] theorem State.blockReset_fault : (s.blockReset).fault = false := rfl
@[simp] theorem State.blockReset_errinfo : (s.blockReset).errinfo = 0 := rfl
@[simp] theorem State.blockReset_draws : (s.blockReset).draws = 0 := rfl
@[simp] theorem State.blockReset_rsp : (s.blockReset).rsp = none := rfl
@[simp] theorem State.blockReset_pending : (s.blockReset).pending = none := rfl
@[simp] theorem State.blockReset_taken : (s.blockReset).taken = [] := rfl
@[simp] theorem State.blockReset_rstN : (s.blockReset).rstN = s.rstN := rfl
@[simp] theorem State.blockReset_cmdQ : (s.blockReset).cmdQ = s.cmdQ := rfl
@[simp] theorem State.blockReset_rspReady : (s.blockReset).rspReady = s.rspReady := rfl
@[simp] theorem State.blockReset_rngQ : (s.blockReset).rngQ = s.rngQ := rfl

/-! loadGenerators. -/

@[simp] theorem State.loadGenerators_cfg (n : Nat) (g0 g1 : Perm) : (s.loadGenerators n g0 g1).cfg = s.cfg := rfl
@[simp] theorem State.loadGenerators_br (n : Nat) (g0 g1 : Perm) : (s.loadGenerators n g0 g1).br = s.br := rfl
@[simp] theorem State.loadGenerators_pr (n : Nat) (g0 g1 : Perm) : (s.loadGenerators n g0 g1).pr = s.pr := rfl
@[simp] theorem State.loadGenerators_imgbuf (n : Nat) (g0 g1 : Perm) :
    (s.loadGenerators n g0 g1).imgbuf = s.imgbuf := rfl
@[simp] theorem State.loadGenerators_pt (n : Nat) (g0 g1 : Perm) :
    (s.loadGenerators n g0 g1).pt = (s.pt.set 0 (some (ptBuild g0 (landauOf n)))).set 1 (some (ptBuild g1 (landauOf n))) := rfl
@[simp] theorem State.loadGenerators_nEng (n : Nat) (g0 g1 : Perm) : (s.loadGenerators n g0 g1).nEng = n := rfl
@[simp] theorem State.loadGenerators_genok (n : Nat) (g0 g1 : Perm) : (s.loadGenerators n g0 g1).genok = true := rfl
@[simp] theorem State.loadGenerators_seeded (n : Nat) (g0 g1 : Perm) : (s.loadGenerators n g0 g1).seeded = false := rfl
@[simp] theorem State.loadGenerators_p (n : Nat) (g0 g1 : Perm) : (s.loadGenerators n g0 g1).p = s.p := rfl
@[simp] theorem State.loadGenerators_d (n : Nat) (g0 g1 : Perm) : (s.loadGenerators n g0 g1).d = s.d := rfl
@[simp] theorem State.loadGenerators_t (n : Nat) (g0 g1 : Perm) : (s.loadGenerators n g0 g1).t = s.t := rfl
@[simp] theorem State.loadGenerators_b (n : Nat) (g0 g1 : Perm) : (s.loadGenerators n g0 g1).b = s.b := rfl
@[simp] theorem State.loadGenerators_fault (n : Nat) (g0 g1 : Perm) : (s.loadGenerators n g0 g1).fault = s.fault := rfl
@[simp] theorem State.loadGenerators_errinfo (n : Nat) (g0 g1 : Perm) :
    (s.loadGenerators n g0 g1).errinfo = s.errinfo := rfl
@[simp] theorem State.loadGenerators_draws (n : Nat) (g0 g1 : Perm) : (s.loadGenerators n g0 g1).draws = s.draws := rfl
@[simp] theorem State.loadGenerators_rsp (n : Nat) (g0 g1 : Perm) : (s.loadGenerators n g0 g1).rsp = s.rsp := rfl
@[simp] theorem State.loadGenerators_pending (n : Nat) (g0 g1 : Perm) :
    (s.loadGenerators n g0 g1).pending = s.pending := rfl
@[simp] theorem State.loadGenerators_taken (n : Nat) (g0 g1 : Perm) : (s.loadGenerators n g0 g1).taken = s.taken := rfl
@[simp] theorem State.loadGenerators_rstN (n : Nat) (g0 g1 : Perm) : (s.loadGenerators n g0 g1).rstN = s.rstN := rfl
@[simp] theorem State.loadGenerators_cmdQ (n : Nat) (g0 g1 : Perm) : (s.loadGenerators n g0 g1).cmdQ = s.cmdQ := rfl
@[simp] theorem State.loadGenerators_rspReady (n : Nat) (g0 g1 : Perm) :
    (s.loadGenerators n g0 g1).rspReady = s.rspReady := rfl
@[simp] theorem State.loadGenerators_rngQ (n : Nat) (g0 g1 : Perm) : (s.loadGenerators n g0 g1).rngQ = s.rngQ := rfl

/-! dropGenerators. -/

@[simp] theorem State.dropGenerators_cfg : (s.dropGenerators).cfg = s.cfg := rfl
@[simp] theorem State.dropGenerators_br : (s.dropGenerators).br = s.br := rfl
@[simp] theorem State.dropGenerators_pr : (s.dropGenerators).pr = s.pr := rfl
@[simp] theorem State.dropGenerators_imgbuf : (s.dropGenerators).imgbuf = s.imgbuf := rfl
@[simp] theorem State.dropGenerators_pt : (s.dropGenerators).pt = s.pt := rfl
@[simp] theorem State.dropGenerators_nEng : (s.dropGenerators).nEng = 0 := rfl
@[simp] theorem State.dropGenerators_genok : (s.dropGenerators).genok = false := rfl
@[simp] theorem State.dropGenerators_seeded : (s.dropGenerators).seeded = false := rfl
@[simp] theorem State.dropGenerators_p : (s.dropGenerators).p = s.p := rfl
@[simp] theorem State.dropGenerators_d : (s.dropGenerators).d = s.d := rfl
@[simp] theorem State.dropGenerators_t : (s.dropGenerators).t = s.t := rfl
@[simp] theorem State.dropGenerators_b : (s.dropGenerators).b = s.b := rfl
@[simp] theorem State.dropGenerators_fault : (s.dropGenerators).fault = s.fault := rfl
@[simp] theorem State.dropGenerators_errinfo : (s.dropGenerators).errinfo = s.errinfo := rfl
@[simp] theorem State.dropGenerators_draws : (s.dropGenerators).draws = s.draws := rfl
@[simp] theorem State.dropGenerators_rsp : (s.dropGenerators).rsp = s.rsp := rfl
@[simp] theorem State.dropGenerators_pending : (s.dropGenerators).pending = s.pending := rfl
@[simp] theorem State.dropGenerators_taken : (s.dropGenerators).taken = s.taken := rfl
@[simp] theorem State.dropGenerators_rstN : (s.dropGenerators).rstN = s.rstN := rfl
@[simp] theorem State.dropGenerators_cmdQ : (s.dropGenerators).cmdQ = s.cmdQ := rfl
@[simp] theorem State.dropGenerators_rspReady : (s.dropGenerators).rspReady = s.rspReady := rfl
@[simp] theorem State.dropGenerators_rngQ : (s.dropGenerators).rngQ = s.rngQ := rfl

/-! reseed. -/

@[simp] theorem State.reseed_cfg (q : Perm) : (s.reseed q).cfg = s.cfg := rfl
@[simp] theorem State.reseed_br (q : Perm) : (s.reseed q).br = s.br := rfl
@[simp] theorem State.reseed_pr (q : Perm) : (s.reseed q).pr = s.pr := rfl
@[simp] theorem State.reseed_imgbuf (q : Perm) : (s.reseed q).imgbuf = s.imgbuf := rfl
@[simp] theorem State.reseed_pt (q : Perm) : (s.reseed q).pt = s.pt := rfl
@[simp] theorem State.reseed_nEng (q : Perm) : (s.reseed q).nEng = s.nEng := rfl
@[simp] theorem State.reseed_genok (q : Perm) : (s.reseed q).genok = s.genok := rfl
@[simp] theorem State.reseed_seeded (q : Perm) : (s.reseed q).seeded = true := rfl
@[simp] theorem State.reseed_p (q : Perm) : (s.reseed q).p = some q := rfl
@[simp] theorem State.reseed_d (q : Perm) : (s.reseed q).d = s.cfg.dInit := rfl
@[simp] theorem State.reseed_t (q : Perm) : (s.reseed q).t = 0 := rfl
@[simp] theorem State.reseed_b (q : Perm) : (s.reseed q).b = 0 := rfl
@[simp] theorem State.reseed_fault (q : Perm) : (s.reseed q).fault = s.fault := rfl
@[simp] theorem State.reseed_errinfo (q : Perm) : (s.reseed q).errinfo = s.errinfo := rfl
@[simp] theorem State.reseed_draws (q : Perm) : (s.reseed q).draws = s.draws := rfl
@[simp] theorem State.reseed_rsp (q : Perm) : (s.reseed q).rsp = s.rsp := rfl
@[simp] theorem State.reseed_pending (q : Perm) : (s.reseed q).pending = s.pending := rfl
@[simp] theorem State.reseed_taken (q : Perm) : (s.reseed q).taken = s.taken := rfl
@[simp] theorem State.reseed_rstN (q : Perm) : (s.reseed q).rstN = s.rstN := rfl
@[simp] theorem State.reseed_cmdQ (q : Perm) : (s.reseed q).cmdQ = s.cmdQ := rfl
@[simp] theorem State.reseed_rspReady (q : Perm) : (s.reseed q).rspReady = s.rspReady := rfl
@[simp] theorem State.reseed_rngQ (q : Perm) : (s.reseed q).rngQ = s.rngQ := rfl

/-! pushDelay. -/

@[simp] theorem State.pushDelay_cfg (w : Word) : (s.pushDelay w).cfg = s.cfg := rfl
@[simp] theorem State.pushDelay_br (w : Word) : (s.pushDelay w).br = s.br := rfl
@[simp] theorem State.pushDelay_pr (w : Word) : (s.pushDelay w).pr = s.pr := rfl
@[simp] theorem State.pushDelay_imgbuf (w : Word) : (s.pushDelay w).imgbuf = s.imgbuf := rfl
@[simp] theorem State.pushDelay_pt (w : Word) : (s.pushDelay w).pt = s.pt := rfl
@[simp] theorem State.pushDelay_nEng (w : Word) : (s.pushDelay w).nEng = s.nEng := rfl
@[simp] theorem State.pushDelay_genok (w : Word) : (s.pushDelay w).genok = s.genok := rfl
@[simp] theorem State.pushDelay_seeded (w : Word) : (s.pushDelay w).seeded = s.seeded := rfl
@[simp] theorem State.pushDelay_p (w : Word) : (s.pushDelay w).p = s.p := rfl
@[simp] theorem State.pushDelay_d (w : Word) : (s.pushDelay w).d = s.d.set s.t.val w := rfl
@[simp] theorem State.pushDelay_t (w : Word) : (s.pushDelay w).t = s.t + 1 := rfl
@[simp] theorem State.pushDelay_b (w : Word) : (s.pushDelay w).b = s.b := rfl
@[simp] theorem State.pushDelay_fault (w : Word) : (s.pushDelay w).fault = s.fault := rfl
@[simp] theorem State.pushDelay_errinfo (w : Word) : (s.pushDelay w).errinfo = s.errinfo := rfl
@[simp] theorem State.pushDelay_draws (w : Word) : (s.pushDelay w).draws = s.draws := rfl
@[simp] theorem State.pushDelay_rsp (w : Word) : (s.pushDelay w).rsp = s.rsp := rfl
@[simp] theorem State.pushDelay_pending (w : Word) : (s.pushDelay w).pending = s.pending := rfl
@[simp] theorem State.pushDelay_taken (w : Word) : (s.pushDelay w).taken = s.taken := rfl
@[simp] theorem State.pushDelay_rstN (w : Word) : (s.pushDelay w).rstN = s.rstN := rfl
@[simp] theorem State.pushDelay_cmdQ (w : Word) : (s.pushDelay w).cmdQ = s.cmdQ := rfl
@[simp] theorem State.pushDelay_rspReady (w : Word) : (s.pushDelay w).rspReady = s.rspReady := rfl
@[simp] theorem State.pushDelay_rngQ (w : Word) : (s.pushDelay w).rngQ = s.rngQ := rfl

/-! latchFault. -/

theorem State.latchFault_eq (info : Word) :
    s.latchFault info = { s with fault := true, errinfo := if s.fault then s.errinfo else info } := by
  unfold State.latchFault
  cases h : s.fault
  · simp
  · simp [← h]

@[simp] theorem State.latchFault_cfg (info : Word) : (s.latchFault info).cfg = s.cfg := by
  rw [State.latchFault_eq]
@[simp] theorem State.latchFault_br (info : Word) : (s.latchFault info).br = s.br := by
  rw [State.latchFault_eq]
@[simp] theorem State.latchFault_pr (info : Word) : (s.latchFault info).pr = s.pr := by
  rw [State.latchFault_eq]
@[simp] theorem State.latchFault_imgbuf (info : Word) : (s.latchFault info).imgbuf = s.imgbuf := by
  rw [State.latchFault_eq]
@[simp] theorem State.latchFault_pt (info : Word) : (s.latchFault info).pt = s.pt := by
  rw [State.latchFault_eq]
@[simp] theorem State.latchFault_nEng (info : Word) : (s.latchFault info).nEng = s.nEng := by
  rw [State.latchFault_eq]
@[simp] theorem State.latchFault_genok (info : Word) : (s.latchFault info).genok = s.genok := by
  rw [State.latchFault_eq]
@[simp] theorem State.latchFault_seeded (info : Word) : (s.latchFault info).seeded = s.seeded := by
  rw [State.latchFault_eq]
@[simp] theorem State.latchFault_p (info : Word) : (s.latchFault info).p = s.p := by
  rw [State.latchFault_eq]
@[simp] theorem State.latchFault_d (info : Word) : (s.latchFault info).d = s.d := by
  rw [State.latchFault_eq]
@[simp] theorem State.latchFault_t (info : Word) : (s.latchFault info).t = s.t := by
  rw [State.latchFault_eq]
@[simp] theorem State.latchFault_b (info : Word) : (s.latchFault info).b = s.b := by
  rw [State.latchFault_eq]
@[simp] theorem State.latchFault_fault (info : Word) : (s.latchFault info).fault = true := by
  rw [State.latchFault_eq]
@[simp] theorem State.latchFault_errinfo (info : Word) : (s.latchFault info).errinfo = if s.fault then s.errinfo else info := by
  rw [State.latchFault_eq]
@[simp] theorem State.latchFault_draws (info : Word) : (s.latchFault info).draws = s.draws := by
  rw [State.latchFault_eq]
@[simp] theorem State.latchFault_rsp (info : Word) : (s.latchFault info).rsp = s.rsp := by
  rw [State.latchFault_eq]
@[simp] theorem State.latchFault_pending (info : Word) : (s.latchFault info).pending = s.pending := by
  rw [State.latchFault_eq]
@[simp] theorem State.latchFault_taken (info : Word) : (s.latchFault info).taken = s.taken := by
  rw [State.latchFault_eq]
@[simp] theorem State.latchFault_rstN (info : Word) : (s.latchFault info).rstN = s.rstN := by
  rw [State.latchFault_eq]
@[simp] theorem State.latchFault_cmdQ (info : Word) : (s.latchFault info).cmdQ = s.cmdQ := by
  rw [State.latchFault_eq]
@[simp] theorem State.latchFault_rspReady (info : Word) : (s.latchFault info).rspReady = s.rspReady := by
  rw [State.latchFault_eq]
@[simp] theorem State.latchFault_rngQ (info : Word) : (s.latchFault info).rngQ = s.rngQ := by
  rw [State.latchFault_eq]

/-! Register reads after register writes. -/

theorem State.getBr_setBr (r r' : BReg) (v : Nat) :
    (s.setBr r v).getBr r' = if r = r' then v else s.getBr r' := by
  simp [State.getBr, State.setBr, Vector.getElem_set, Fin.ext_iff]

@[simp] theorem State.getBr_setBr_same (r : BReg) (v : Nat) : (s.setBr r v).getBr r = v := by
  simp [State.getBr_setBr]

@[simp] theorem State.getBr_setBr_ne (r r' : BReg) (v : Nat) (h : r ≠ r') :
    (s.setBr r v).getBr r' = s.getBr r' := by
  simp [State.getBr_setBr, h]

theorem State.getPr_setPr (r r' : PReg) (q : Perm) :
    (s.setPr r q).getPr r' = if r = r' then some q else s.getPr r' := by
  simp [State.getPr, State.setPr, Vector.getElem_set, Fin.ext_iff]

@[simp] theorem State.getPr_setPr_same (r : PReg) (q : Perm) : (s.setPr r q).getPr r = some q := by
  simp [State.getPr_setPr]

@[simp] theorem State.getPr_setPr_ne (r r' : PReg) (q : Perm) (h : r ≠ r') :
    (s.setPr r q).getPr r' = s.getPr r' := by
  simp [State.getPr_setPr, h]

theorem State.getPt_setPt (u u' : PtUnit) (g : PowerTable) :
    (s.setPt u g).getPt u' = if u = u' then some g else s.getPt u' := by
  simp [State.getPt, State.setPt, Vector.getElem_set, Fin.ext_iff]

@[simp] theorem State.getPt_setPt_same (u : PtUnit) (g : PowerTable) : (s.setPt u g).getPt u = some g := by
  simp [State.getPt_setPt]

@[simp] theorem State.getPt_setPt_ne (u u' : PtUnit) (g : PowerTable) (h : u ≠ u') :
    (s.setPt u g).getPt u' = s.getPt u' := by
  simp [State.getPt_setPt, h]

@[simp] theorem State.getBr_setPr (r : PReg) (q : Perm) (r' : BReg) : (s.setPr r q).getBr r' = s.getBr r' := rfl
@[simp] theorem State.getBr_setPt (u : PtUnit) (g : PowerTable) (r' : BReg) : (s.setPt u g).getBr r' = s.getBr r' := rfl
@[simp] theorem State.getBr_setImg (buf : Vector Byte 64) (r' : BReg) : (s.setImg buf).getBr r' = s.getBr r' := rfl
@[simp] theorem State.getBr_respond (c : Byte) (v : Word) (r' : BReg) : (s.respond c v).getBr r' = s.getBr r' := rfl
@[simp] theorem State.getBr_clearFault (r' : BReg) : (s.clearFault).getBr r' = s.getBr r' := rfl
@[simp] theorem State.getBr_drew (rest : List Word) (r' : BReg) : (s.drew rest).getBr r' = s.getBr r' := rfl
@[simp] theorem State.getBr_await (i : Instr) (kept : List Word) (r' : BReg) : (s.await i kept).getBr r' = s.getBr r' := rfl
@[simp] theorem State.getBr_loadGenerators (n : Nat) (g0 g1 : Perm) (r' : BReg) : (s.loadGenerators n g0 g1).getBr r' = s.getBr r' := rfl
@[simp] theorem State.getBr_dropGenerators (r' : BReg) : (s.dropGenerators).getBr r' = s.getBr r' := rfl
@[simp] theorem State.getBr_reseed (q : Perm) (r' : BReg) : (s.reseed q).getBr r' = s.getBr r' := rfl
@[simp] theorem State.getBr_pushDelay (w : Word) (r' : BReg) : (s.pushDelay w).getBr r' = s.getBr r' := rfl
@[simp] theorem State.getBr_latchFault (info : Word) (r' : BReg) : (s.latchFault info).getBr r' = s.getBr r' := by
  simp [State.getBr]

@[simp] theorem State.getPr_setBr (r : BReg) (v : Nat) (r' : PReg) : (s.setBr r v).getPr r' = s.getPr r' := rfl
@[simp] theorem State.getPr_setPt (u : PtUnit) (g : PowerTable) (r' : PReg) : (s.setPt u g).getPr r' = s.getPr r' := rfl
@[simp] theorem State.getPr_setImg (buf : Vector Byte 64) (r' : PReg) : (s.setImg buf).getPr r' = s.getPr r' := rfl
@[simp] theorem State.getPr_respond (c : Byte) (v : Word) (r' : PReg) : (s.respond c v).getPr r' = s.getPr r' := rfl
@[simp] theorem State.getPr_clearFault (r' : PReg) : (s.clearFault).getPr r' = s.getPr r' := rfl
@[simp] theorem State.getPr_drew (rest : List Word) (r' : PReg) : (s.drew rest).getPr r' = s.getPr r' := rfl
@[simp] theorem State.getPr_await (i : Instr) (kept : List Word) (r' : PReg) : (s.await i kept).getPr r' = s.getPr r' := rfl
@[simp] theorem State.getPr_loadGenerators (n : Nat) (g0 g1 : Perm) (r' : PReg) : (s.loadGenerators n g0 g1).getPr r' = s.getPr r' := rfl
@[simp] theorem State.getPr_dropGenerators (r' : PReg) : (s.dropGenerators).getPr r' = s.getPr r' := rfl
@[simp] theorem State.getPr_reseed (q : Perm) (r' : PReg) : (s.reseed q).getPr r' = s.getPr r' := rfl
@[simp] theorem State.getPr_pushDelay (w : Word) (r' : PReg) : (s.pushDelay w).getPr r' = s.getPr r' := rfl
@[simp] theorem State.getPr_latchFault (info : Word) (r' : PReg) : (s.latchFault info).getPr r' = s.getPr r' := by
  simp [State.getPr]

@[simp] theorem State.getPt_setBr (r : BReg) (v : Nat) (u' : PtUnit) : (s.setBr r v).getPt u' = s.getPt u' := rfl
@[simp] theorem State.getPt_setPr (r : PReg) (q : Perm) (u' : PtUnit) : (s.setPr r q).getPt u' = s.getPt u' := rfl
@[simp] theorem State.getPt_setImg (buf : Vector Byte 64) (u' : PtUnit) : (s.setImg buf).getPt u' = s.getPt u' := rfl
@[simp] theorem State.getPt_respond (c : Byte) (v : Word) (u' : PtUnit) : (s.respond c v).getPt u' = s.getPt u' := rfl
@[simp] theorem State.getPt_clearFault (u' : PtUnit) : (s.clearFault).getPt u' = s.getPt u' := rfl
@[simp] theorem State.getPt_drew (rest : List Word) (u' : PtUnit) : (s.drew rest).getPt u' = s.getPt u' := rfl
@[simp] theorem State.getPt_await (i : Instr) (kept : List Word) (u' : PtUnit) : (s.await i kept).getPt u' = s.getPt u' := rfl
@[simp] theorem State.getPt_dropGenerators (u' : PtUnit) : (s.dropGenerators).getPt u' = s.getPt u' := rfl
@[simp] theorem State.getPt_reseed (q : Perm) (u' : PtUnit) : (s.reseed q).getPt u' = s.getPt u' := rfl
@[simp] theorem State.getPt_pushDelay (w : Word) (u' : PtUnit) : (s.pushDelay w).getPt u' = s.getPt u' := rfl
@[simp] theorem State.getPt_latchFault (info : Word) (u' : PtUnit) : (s.latchFault info).getPt u' = s.getPt u' := by
  simp [State.getPt]

end Sys2Proof.Machine
end

