-- ==== Sys2Proof/Laws/Ops.lean ====
section
/-! SUPPORT. For each shared operation, once, everything it can do: if it answers next t, then one of these cases
holds. Later proofs cite these and do not unfold the operations. -/

namespace Sys2Proof.Machine

/-! Completing a command and faults. -/

@[simp] theorem answer_eq (v : Word) (s : State) : answer v s = .next (s.respond 0 v) := rfl

@[simp] theorem done_eq (s : State) : done s = .next (s.respond 0 0) := rfl

@[simp] theorem raise_eq (o : Opcode) (c : Cause) (s : State) : raise o c s = .next (s.faultEntry o.code c) := rfl

/-- Fault entry, field by field (60_exceptions.md R356). -/
theorem State.faultEntry_eq (s : State) (opc : Byte) (c : Cause) :
    s.faultEntry opc c =
      { s with
        fault := true, errinfo := if s.fault then s.errinfo else faultInfo opc c
        rsp := some ⟨c.code, faultInfo opc c⟩ } := by
  simp [State.faultEntry, State.latchFault_eq, State.respond]

/-- The code of a cause is 1, 2 or 3 (60_exceptions.md R356). -/
theorem Cause.code_cases (c : Cause) : c.code = 1 ∨ c.code = 2 ∨ c.code = 3 := by
  cases c <;> decide

theorem Cause.code_ne_zero (c : Cause) : c.code ≠ 0 := by cases c <;> decide

theorem Cause.code_ne_four (c : Cause) : c.code ≠ 4 := by cases c <;> decide

theorem next_inj {s t : State} (h : (Host.Outcome.next s : Out) = .next t) : t = s := by
  injection h with h
  exact h.symm

/-- FaultPending or execution (60_exceptions.md R355). -/
theorem unlessFault_next {s t : State} {k : Out} (h : unlessFault s k = .next t) :
    (s.fault = true ∧ t = s.respond 4 s.errinfo) ∨ (s.fault = false ∧ k = .next t) := by
  unfold unlessFault at h
  split at h
  · exact .inl ⟨‹_›, next_inj h⟩
  · exact .inr ⟨Bool.eq_false_iff.mpr ‹_›, h⟩

@[simp] theorem unlessFault_clear {s : State} (k : Out) (h : s.fault = false) : unlessFault s k = k := by
  simp [unlessFault, h]

@[simp] theorem unlessFault_latched {s : State} (k : Out) (h : s.fault = true) :
    unlessFault s k = .next (s.respond 4 s.errinfo) := by
  simp [unlessFault, h, faultPendingCode]

/-! Operand forms. -/

theorem withSize_next {o : Opcode} {n : Nat} {s t : State} {k : Out} (h : withSize o n s k = .next t) :
    (¬(1 ≤ n ∧ n ≤ 64) ∧ t = s.faultEntry o.code .badN) ∨ ((1 ≤ n ∧ n ≤ 64) ∧ k = .next t) := by
  unfold withSize at h
  split at h
  · exact .inr ⟨‹_›, h⟩
  · exact .inl ⟨‹_›, next_inj h⟩

theorem withIndex_next {o : Opcode} {i lim : Nat} {s t : State} {k : Out} (h : withIndex o i lim s k = .next t) :
    (lim ≤ i ∧ t = s.faultEntry o.code .indexRange) ∨ (i < lim ∧ k = .next t) := by
  unfold withIndex at h
  split at h
  · exact .inr ⟨‹_›, h⟩
  · exact .inl ⟨by omega, next_inj h⟩

theorem withPerm_next {o : Opcode} {r : PReg} {s t : State} {k : Perm → Out} (h : withPerm o r s k = .next t) :
    (s.getPr r = none ∧ t = s.faultEntry o.code .emptyOperand) ∨ (∃ p, s.getPr r = some p ∧ k p = .next t) := by
  unfold withPerm at h
  split at h
  · exact .inl ⟨‹_›, next_inj h⟩
  · exact .inr ⟨_, ‹_›, h⟩

theorem withPerms_next {o : Opcode} {r1 r2 : PReg} {s t : State} {k : Perm → Perm → Out}
    (h : withPerms o r1 r2 s k = .next t) :
    ((s.getPr r1 = none ∨ s.getPr r2 = none) ∧ t = s.faultEntry o.code .emptyOperand) ∨
    (∃ p q, s.getPr r1 = some p ∧ s.getPr r2 = some q ∧ k p q = .next t) := by
  rcases withPerm_next h with ⟨h1, rfl⟩ | ⟨p, h1, h⟩
  · exact .inl ⟨.inl h1, rfl⟩
  · rcases withPerm_next h with ⟨h2, rfl⟩ | ⟨q, h2, h⟩
    · exact .inl ⟨.inr h2, rfl⟩
    · exact .inr ⟨p, q, h1, h2, h⟩

theorem withTable_next {o : Opcode} {u : PtUnit} {s t : State} {k : PowerTable → Out}
    (h : withTable o u s k = .next t) :
    (s.getPt u = none ∧ t = s.faultEntry o.code .emptyOperand) ∨ (∃ g, s.getPt u = some g ∧ k g = .next t) := by
  unfold withTable at h
  split at h
  · exact .inl ⟨‹_›, next_inj h⟩
  · exact .inr ⟨_, ‹_›, h⟩

theorem withEqualSizes_next {o : Opcode} {n1 n2 : Nat} {s t : State} {k : Out}
    (h : withEqualSizes o n1 n2 s k = .next t) :
    (n1 ≠ n2 ∧ t = s.faultEntry o.code .sizeMismatch) ∨ (n1 = n2 ∧ k = .next t) := by
  unfold withEqualSizes at h
  split at h
  · exact .inr ⟨‹_›, h⟩
  · exact .inl ⟨‹_›, next_inj h⟩

theorem withEntry_next {o : Opcode} {g : PowerTable} {e : Nat} {s t : State} {k : Perm → Out}
    (h : withEntry o g e s k = .next t) :
    ((g.k ≤ e ∨ g.tab[e]? = none) ∧ t = s.faultEntry o.code .ptIndex) ∨
    (∃ x, e < g.k ∧ g.tab[e]? = some x ∧ k x = .next t) := by
  unfold withEntry at h
  split at h
  · split at h
    · exact .inr ⟨_, ‹_›, ‹_›, h⟩
    · exact .inl ⟨.inr ‹_›, next_inj h⟩
  · exact .inl ⟨.inl (by omega), next_inj h⟩

theorem writeBig_next {o : Opcode} {rd : BReg} {v : Nat} {s t : State} (h : writeBig o rd v s = .next t) :
    (s.cap ≤ v ∧ t = s.faultEntry o.code .capacity) ∨ (v < s.cap ∧ t = (s.setBr rd v).respond 0 0) := by
  unfold writeBig at h
  split at h
  · exact .inr ⟨‹_›, next_inj h⟩
  · exact .inl ⟨by omega, next_inj h⟩

/-- CAP is 2^(32·BIG_LIMBS) (40_biguint.md R151). -/
theorem State.cap_eq (s : State) : s.cap = 2 ^ (32 * s.cfg.bigLimbs) := by
  simp only [State.cap, capOf, limbWeight, pow_mul]

theorem limbWeight_eq (j : Nat) : limbWeight j = 2 ^ (32 * j) := by
  simp only [limbWeight, pow_mul]

/-! Draws. -/

/-- A drawing command waits or goes on with the words it drew. -/
theorem drawing_next {i : Instr} {k : Nat} {s t : State} {go : List Word → State → Out}
    (h : drawing i k s go = .next t) :
    (s.supply.length < k ∧ t = s.await i s.supply) ∨
    (k ≤ s.supply.length ∧ go (s.supply.take k) (s.drew (s.supply.drop k)) = .next t) := by
  unfold drawing at h
  split at h
  · exact .inl ⟨‹_›, next_inj h⟩
  · exact .inr ⟨by omega, h⟩

@[simp] theorem swapAt_length (m : Perm) (i j : Nat) : (swapAt m i j).length = m.length := by
  simp [swapAt]

/-- The sampling loop with one word more does one position more (41_perm.md R206, R207). -/
theorem shuffleLoop_append (n i : Nat) (ws : List Word) (w : Word) (m : Perm) (cnt : Nat) :
    shuffleLoop n i (ws ++ [w]) m cnt =
      let r := shuffleLoop n i ws m cnt
      let k := i + ws.length
      let j := k + w.toNat % (n - k)
      (swapAt r.1 k j, if k = j then r.2 else r.2 + 1) := by
  induction ws generalizing i m cnt with
  | nil => simp [shuffleLoop]
  | cons a ws ih =>
    have hk : i + 1 + ws.length = i + (ws.length + 1) := by omega
    simp [shuffleLoop, ih, hk]

/-- What variant-A selection on the words `ws` can answer (43_engine.md R284): an accepted pair meets the three
requirements and leaves the end of the words, a starved attempt is the end of the words. -/
def SelectionSound (n : Nat) (ws : List Word) : Selection → Prop
  | .accepted g0 g1 rest =>
    (∃ pre, ws = pre ++ rest) ∧ hasLandauOrder n g0 = true ∧ hasLandauOrder n g1 = true ∧ shareFixedPoint g0 g1 = false
  | .starved attempt => ∃ pre, ws = pre ++ attempt

theorem SelectionSound.of_drop {n d : Nat} {ws : List Word} {r : Selection} (h : SelectionSound n (ws.drop d) r) :
    SelectionSound n ws r := by
  have glue : ∀ rest : List Word, (∃ pre, ws.drop d = pre ++ rest) → ∃ pre, ws = pre ++ rest := by
    rintro rest ⟨pre, hp⟩
    exact ⟨ws.take d ++ pre, by rw [List.append_assoc, ← hp, List.take_append_drop]⟩
  cases r with
  | accepted g0 g1 rest => exact ⟨glue _ h.1, h.2⟩
  | starved attempt => exact glue _ h

theorem selectLoop_sound (n fuel : Nat) (ws : List Word) : SelectionSound n ws (selectLoop n fuel ws) := by
  induction fuel generalizing ws with
  | zero => exact ⟨[], rfl⟩
  | succ fuel ih =>
    unfold selectLoop
    split
    · exact ⟨[], rfl⟩
    · dsimp only
      split
      · exact (ih _).of_drop
      · split
        · exact ⟨[], rfl⟩
        · split
          · exact (ih _).of_drop.of_drop
          · split
            · exact (ih _).of_drop.of_drop
            · refine ⟨⟨ws.take (shuffleDraws n + shuffleOddDraws n), ?_⟩, ?_, ?_, ?_⟩
              · rw [List.drop_drop, List.take_append_drop]
              · simpa using ‹¬hasLandauOrder n (shuffle n _) = false›
              · simpa using ‹¬hasLandauOrder n (shuffleOdd n _) = false›
              · simpa using ‹¬shareFixedPoint _ _ = true›

/-! The engine. -/

theorem withGenerators_next {o : Opcode} {s t : State} {k : Out} (h : withGenerators o s k = .next t) :
    (s.genok = false ∧ t = s.faultEntry o.code .noGenerators) ∨ (s.genok = true ∧ k = .next t) := by
  unfold withGenerators at h
  split at h
  · exact .inr ⟨‹_›, h⟩
  · exact .inl ⟨Bool.eq_false_iff.mpr ‹_›, next_inj h⟩

theorem withSeeded_next {o : Opcode} {s t : State} {k : Out} (h : withSeeded o s k = .next t) :
    (s.seeded = false ∧ t = s.faultEntry o.code .notSeeded) ∨ (s.seeded = true ∧ k = .next t) := by
  unfold withSeeded at h
  split at h
  · exact .inr ⟨‹_›, h⟩
  · exact .inl ⟨Bool.eq_false_iff.mpr ‹_›, next_inj h⟩

theorem orBroken_next {α : Type} {x : Option α} {k : α → Out} {t : State} (h : orBroken x k = .next t) :
    ∃ a, x = some a ∧ k a = .next t := by
  unfold orBroken at h
  split at h
  · exact ⟨_, rfl, h⟩
  · cases h

/-- step() succeeds exactly when P, the table G[b] and its entry e are there, and then does this (43_engine.md R281). -/
theorem State.engineStep_eq_some {s t : State} :
    s.engineStep = some t ↔
      ∃ p g x, s.p = some p ∧ s.getPt s.b = some g ∧ g.tab[exponent s g.k]? = some x ∧
        t = { s with p := some (compose p x), b := s.b + 1 } := by
  unfold State.engineStep
  constructor
  · intro h
    split at h
    · split at h
      · injection h with h
        exact ⟨_, _, _, ‹_›, ‹_›, ‹_›, h.symm⟩
      · cases h
    · cases h
  · rintro ⟨p, g, x, hp, hg, hx, rfl⟩
    simp only [hp, hg, hx]

/-- rand() is step(), then the mixer, the delay line and the new tail (43_engine.md R283). -/
theorem State.engineRand_eq_some {s : State} {r : State × Word} :
    s.engineRand = some r ↔
      ∃ s1 p, s.engineStep = some s1 ∧ s1.p = some p ∧
        r = (s1.pushDelay (mix s1.cfg p), mix s1.cfg p ^^^ (s1.pushDelay (mix s1.cfg p)).d[(s1.t + 1).val]) := by
  unfold State.engineRand
  constructor
  · intro h
    split at h
    · cases h
    · split at h
      · cases h
      · injection h with h
        exact ⟨_, _, ‹_›, ‹_›, h.symm⟩
  · rintro ⟨s1, p, h1, hp, rfl⟩
    simp only [h1, hp, State.pushDelay_t]

/-- The units after generators are loaded (43_engine.md R290, R291). -/
theorem State.getPt_loadGenerators (s : State) (n : Nat) (g0 g1 : Perm) (u : PtUnit) :
    (s.loadGenerators n g0 g1).getPt u = some (ptBuild (if u = 0 then g0 else g1) (landauOf n)) := by
  revert u
  simp [State.getPt, State.loadGenerators, Fin.forall_fin_two]

/-! One step. -/

/-- Everything a step can be: a reset, a response held or taken, a waiting command that goes on, an idle block, an
undecodable word, or an instruction executed. -/
theorem step_next {s t : State} (h : step s = .next t) :
    (s.rstN = false ∧ t = s.blockReset) ∨
    (s.rstN = true ∧ (∃ r, s.rsp = some r) ∧ t = (if s.rspReady then { s with rsp := none } else s)) ∨
    (s.rstN = true ∧ s.rsp = none ∧ ∃ i, s.pending = some i ∧ exec i { s with pending := none } = .next t) ∨
    (s.rstN = true ∧ s.rsp = none ∧ s.pending = none ∧ s.cmdQ = [] ∧ t = s) ∨
    (s.rstN = true ∧ s.rsp = none ∧ s.pending = none ∧ ∃ c q e, s.cmdQ = c :: q ∧ decode c.word c.data = .error e ∧
      t = { s with cmdQ := q }.faultEntry (opcField c.word) (decodeCause e)) ∨
    (s.rstN = true ∧ s.rsp = none ∧ s.pending = none ∧ ∃ c q i, s.cmdQ = c :: q ∧ decode c.word c.data = .ok i ∧
      exec i { s with cmdQ := q } = .next t) := by
  unfold step at h
  generalize hT : s.transaction = T at h
  unfold State.transaction at hT
  split at hT
  · subst hT
    exact .inl ⟨‹_›, next_inj h⟩
  · have hr : s.rstN = true := by simpa using ‹¬ s.rstN = false›
    split at hT
    · subst hT
      exact .inr (.inl ⟨hr, ⟨_, ‹_›⟩, next_inj h⟩)
    · split at hT
      · subst hT
        exact .inr (.inr (.inl ⟨hr, ‹_›, _, ‹_›, h⟩))
      · split at hT
        · subst hT
          exact .inr (.inr (.inr (.inl ⟨hr, ‹_›, ‹_›, ‹_›, next_inj h⟩)))
        · rename_i c q hq
          unfold State.accept at hT
          split at hT
          · subst hT
            exact .inr (.inr (.inr (.inr (.inr ⟨hr, ‹_›, ‹_›, c, q, _, hq, ‹_›, h⟩))))
          · subst hT
            exact .inr (.inr (.inr (.inr (.inl ⟨hr, ‹_›, ‹_›, c, q, _, hq, ‹_›, next_inj h⟩))))

end Sys2Proof.Machine
end

