-- ==== Sys2Proof/Laws/PerInstr.lean ====
section
/-! SUPPORT. Facts about every instruction as syntax. The fields of a packed word are the ones it was packed with; and,
one lemma per constructor, the word an instruction is encoded to has its opcode in OPC and zeros in RSV and in every
field its format does not use (30_encoding.md R114, R115). -/

namespace Sys2Proof.Laws

/-- The bits of a packed word, by position (30_encoding.md R111). -/
theorem pack_bits (a : BitVec 12) (r : BitVec 2) (u : BitVec 1) (b c d : BitVec 3) (o : BitVec 8) (i : Nat) :
    (a ++ r ++ u ++ b ++ c ++ d ++ o).getLsbD i =
      if i < 8 then o.getLsbD i else if i < 11 then d.getLsbD (i - 8) else if i < 14 then c.getLsbD (i - 11)
      else if i < 17 then b.getLsbD (i - 14) else if i < 18 then u.getLsbD (i - 17)
      else if i < 20 then r.getLsbD (i - 18) else a.getLsbD (i - 20) := by
  simp only [BitVec.getLsbD_append, Nat.sub_sub]
  by_cases h1 : i < 8
  · simp [h1]
  by_cases h2 : i < 11
  · simp [h1, h2, show i - 8 < 3 by omega]
  by_cases h3 : i < 14
  · simp [h1, h2, h3, show ¬ i - 8 < 3 by omega, show i - 11 < 3 by omega]
  by_cases h4 : i < 17
  · simp [h1, h2, h3, h4, show ¬ i - 8 < 3 by omega, show ¬ i - 11 < 3 by omega, show i - 14 < 3 by omega]
  by_cases h5 : i < 18
  · simp [h1, h2, h3, h4, h5, show ¬ i - 8 < 3 by omega, show ¬ i - 11 < 3 by omega, show ¬ i - 14 < 3 by omega,
      show i - 17 < 1 by omega]
  by_cases h6 : i < 20
  · simp [h1, h2, h3, h4, h5, h6, show ¬ i - 8 < 3 by omega, show ¬ i - 11 < 3 by omega, show ¬ i - 14 < 3 by omega,
      show ¬ i - 17 < 1 by omega, show i - 18 < 2 by omega]
  · simp [h1, h2, h3, h4, h5, h6, show ¬ i - 8 < 3 by omega, show ¬ i - 11 < 3 by omega, show ¬ i - 14 < 3 by omega,
      show ¬ i - 17 < 1 by omega, show ¬ i - 18 < 2 by omega]

/-- Bit i of a packed word (30_encoding.md R111). -/
theorem packWord_getLsbD (o : Byte) (f : Fields) (i : Nat) :
    (packWord o f).getLsbD i =
      if i < 8 then o.getLsbD i else if i < 11 then (BitVec.ofNat 3 f.rd.val).getLsbD (i - 8)
      else if i < 14 then (BitVec.ofNat 3 f.rs1.val).getLsbD (i - 11)
      else if i < 17 then (BitVec.ofNat 3 f.rs2.val).getLsbD (i - 14)
      else if i < 18 then (BitVec.ofNat 1 f.u.val).getLsbD (i - 17)
      else if i < 20 then false else (BitVec.ofNat 12 f.imm).getLsbD (i - 20) := by
  have := pack_bits (BitVec.ofNat 12 f.imm) 0 (BitVec.ofNat 1 f.u.val) (BitVec.ofNat 3 f.rs2.val)
    (BitVec.ofNat 3 f.rs1.val) (BitVec.ofNat 3 f.rd.val) o i
  rw [BitVec.ofNat_eq_ofNat, BitVec.getLsbD_zero] at this
  exact this

/-- OPC of a packed word is the opcode it was packed with (30_encoding.md R111). -/
theorem opcField_packWord (o : Byte) (f : Fields) : opcField (packWord o f) = o := by
  apply BitVec.eq_of_getLsbD_eq
  intro i hi
  rw [opcField, BitVec.getLsbD_extractLsb', packWord_getLsbD]
  simp [hi]

/-- The bit fields of a packed word (30_encoding.md R111). -/
theorem field_packWord (o : Byte) (f : Fields) :
    (packWord o f).extractLsb' 8 3 = BitVec.ofNat 3 f.rd.val ∧
    (packWord o f).extractLsb' 11 3 = BitVec.ofNat 3 f.rs1.val ∧
    (packWord o f).extractLsb' 14 3 = BitVec.ofNat 3 f.rs2.val ∧
    (packWord o f).extractLsb' 17 1 = BitVec.ofNat 1 f.u.val ∧
    (packWord o f).extractLsb' 20 12 = BitVec.ofNat 12 f.imm := by
  refine ⟨?_, ?_, ?_, ?_, ?_⟩ <;> apply BitVec.eq_of_getLsbD_eq <;> intro i hi <;>
    rw [BitVec.getLsbD_extractLsb', packWord_getLsbD]
  · simp only [hi, show ¬ 8 + i < 8 by omega, show 8 + i < 11 by omega, if_true, if_false, decide_true, Bool.true_and,
      Nat.add_sub_cancel_left]
  · simp only [hi, show ¬ 11 + i < 8 by omega, show ¬ 11 + i < 11 by omega, show 11 + i < 14 by omega, if_true,
      if_false, decide_true, Bool.true_and, Nat.add_sub_cancel_left]
  · simp only [hi, show ¬ 14 + i < 8 by omega, show ¬ 14 + i < 11 by omega, show ¬ 14 + i < 14 by omega,
      show 14 + i < 17 by omega, if_true, if_false, decide_true, Bool.true_and, Nat.add_sub_cancel_left]
  · simp only [hi, show ¬ 17 + i < 8 by omega, show ¬ 17 + i < 11 by omega, show ¬ 17 + i < 14 by omega,
      show ¬ 17 + i < 17 by omega, show 17 + i < 18 by omega, if_true, if_false, decide_true, Bool.true_and,
      Nat.add_sub_cancel_left]
  · simp only [hi, show ¬ 20 + i < 8 by omega, show ¬ 20 + i < 11 by omega, show ¬ 20 + i < 14 by omega,
      show ¬ 20 + i < 17 by omega, show ¬ 20 + i < 18 by omega, show ¬ 20 + i < 20 by omega, if_false, decide_true,
      Bool.true_and, Nat.add_sub_cancel_left]

/-- The operand fields of a packed word are the ones it was packed with (30_encoding.md R112). -/
theorem fieldsOf_packWord (o : Byte) (f : Fields) (h : f.imm < 4096) : fieldsOf (packWord o f) = f := by
  obtain ⟨h1, h2, h3, h4, h5⟩ := field_packWord o f
  rw [fieldsOf, h1, h2, h3, h4, h5]
  obtain ⟨rd, rs1, rs2, u, imm⟩ := f
  have : imm % 4096 = imm := Nat.mod_eq_of_lt h
  simp [this]
/-! The masked bits of a packed word, per format (30_encoding.md R115). -/

theorem mask_n (o : Byte) :
    packWord o {} &&& Format.n.mask = o.setWidth 32 := by
  apply BitVec.eq_of_getLsbD_eq
  intro i hi
  rw [BitVec.getLsbD_and, packWord_getLsbD, BitVec.getLsbD_setWidth]
  interval_cases i <;> simp [Format.mask]

theorem mask_i (o : Byte) (imm : Nat) :
    packWord o { imm := imm } &&& Format.i.mask = o.setWidth 32 := by
  apply BitVec.eq_of_getLsbD_eq
  intro i hi
  rw [BitVec.getLsbD_and, packWord_getLsbD, BitVec.getLsbD_setWidth]
  interval_cases i <;> simp [Format.mask]

theorem mask_d (o : Byte) (rd : Fin 8) :
    packWord o { rd := rd } &&& Format.d.mask = o.setWidth 32 := by
  apply BitVec.eq_of_getLsbD_eq
  intro i hi
  rw [BitVec.getLsbD_and, packWord_getLsbD, BitVec.getLsbD_setWidth]
  interval_cases i <;> simp [Format.mask]

theorem mask_di (o : Byte) (rd : Fin 8) (imm : Nat) :
    packWord o { rd := rd, imm := imm } &&& Format.di.mask = o.setWidth 32 := by
  apply BitVec.eq_of_getLsbD_eq
  intro i hi
  rw [BitVec.getLsbD_and, packWord_getLsbD, BitVec.getLsbD_setWidth]
  interval_cases i <;> simp [Format.mask]

theorem mask_ds (o : Byte) (rd : Fin 8) (rs1 : Fin 8) :
    packWord o { rd := rd, rs1 := rs1 } &&& Format.ds.mask = o.setWidth 32 := by
  apply BitVec.eq_of_getLsbD_eq
  intro i hi
  rw [BitVec.getLsbD_and, packWord_getLsbD, BitVec.getLsbD_setWidth]
  interval_cases i <;> simp [Format.mask]

theorem mask_dss (o : Byte) (rd : Fin 8) (rs1 : Fin 8) (rs2 : Fin 8) :
    packWord o { rd := rd, rs1 := rs1, rs2 := rs2 } &&& Format.dss.mask = o.setWidth 32 := by
  apply BitVec.eq_of_getLsbD_eq
  intro i hi
  rw [BitVec.getLsbD_and, packWord_getLsbD, BitVec.getLsbD_setWidth]
  interval_cases i <;> simp [Format.mask]

theorem mask_dsi (o : Byte) (rd : Fin 8) (rs1 : Fin 8) (imm : Nat) :
    packWord o { rd := rd, rs1 := rs1, imm := imm } &&& Format.dsi.mask = o.setWidth 32 := by
  apply BitVec.eq_of_getLsbD_eq
  intro i hi
  rw [BitVec.getLsbD_and, packWord_getLsbD, BitVec.getLsbD_setWidth]
  interval_cases i <;> simp [Format.mask]

theorem mask_s (o : Byte) (rs1 : Fin 8) :
    packWord o { rs1 := rs1 } &&& Format.s.mask = o.setWidth 32 := by
  apply BitVec.eq_of_getLsbD_eq
  intro i hi
  rw [BitVec.getLsbD_and, packWord_getLsbD, BitVec.getLsbD_setWidth]
  interval_cases i <;> simp [Format.mask]

theorem mask_ss (o : Byte) (rs1 : Fin 8) (rs2 : Fin 8) :
    packWord o { rs1 := rs1, rs2 := rs2 } &&& Format.ss.mask = o.setWidth 32 := by
  apply BitVec.eq_of_getLsbD_eq
  intro i hi
  rw [BitVec.getLsbD_and, packWord_getLsbD, BitVec.getLsbD_setWidth]
  interval_cases i <;> simp [Format.mask]

theorem mask_si (o : Byte) (rs1 : Fin 8) (imm : Nat) :
    packWord o { rs1 := rs1, imm := imm } &&& Format.si.mask = o.setWidth 32 := by
  apply BitVec.eq_of_getLsbD_eq
  intro i hi
  rw [BitVec.getLsbD_and, packWord_getLsbD, BitVec.getLsbD_setWidth]
  interval_cases i <;> simp [Format.mask]

theorem mask_u (o : Byte) (u : Fin 2) :
    packWord o { u := u } &&& Format.u.mask = o.setWidth 32 := by
  apply BitVec.eq_of_getLsbD_eq
  intro i hi
  rw [BitVec.getLsbD_and, packWord_getLsbD, BitVec.getLsbD_setWidth]
  interval_cases i <;> simp [Format.mask]

theorem mask_us (o : Byte) (u : Fin 2) (rs1 : Fin 8) :
    packWord o { u := u, rs1 := rs1 } &&& Format.us.mask = o.setWidth 32 := by
  apply BitVec.eq_of_getLsbD_eq
  intro i hi
  rw [BitVec.getLsbD_and, packWord_getLsbD, BitVec.getLsbD_setWidth]
  interval_cases i <;> simp [Format.mask]

theorem mask_du (o : Byte) (rd : Fin 8) (u : Fin 2) :
    packWord o { rd := rd, u := u } &&& Format.du.mask = o.setWidth 32 := by
  apply BitVec.eq_of_getLsbD_eq
  intro i hi
  rw [BitVec.getLsbD_and, packWord_getLsbD, BitVec.getLsbD_setWidth]
  interval_cases i <;> simp [Format.mask]

theorem mask_dsu (o : Byte) (rd : Fin 8) (rs1 : Fin 8) (u : Fin 2) :
    packWord o { rd := rd, rs1 := rs1, u := u } &&& Format.dsu.mask = o.setWidth 32 := by
  apply BitVec.eq_of_getLsbD_eq
  intro i hi
  rw [BitVec.getLsbD_and, packWord_getLsbD, BitVec.getLsbD_setWidth]
  interval_cases i <;> simp [Format.mask]

theorem mask_iss (o : Byte) (imm : Nat) (rs1 : Fin 8) (rs2 : Fin 8) :
    packWord o { imm := imm, rs1 := rs1, rs2 := rs2 } &&& Format.iss.mask = o.setWidth 32 := by
  apply BitVec.eq_of_getLsbD_eq
  intro i hi
  rw [BitVec.getLsbD_and, packWord_getLsbD, BitVec.getLsbD_setWidth]
  interval_cases i <;> simp [Format.mask]

/-- OPC holds the opcode, and the bits the format's mask covers hold its match value (30_encoding.md R115). -/
def EncodedForm.Statement (i : Instr) : Prop :=
  opcField (encode i).word = i.opcode.code ∧ (encode i).word &&& i.opcode.format.mask = i.opcode.matchWord

theorem EncodedForm.ctlNop : Statement (.ctlNop) :=
  ⟨opcField_packWord _ _, mask_n _⟩

theorem EncodedForm.ctlRdcsr (imm : Nat) : Statement (.ctlRdcsr imm) :=
  ⟨opcField_packWord _ _, mask_i _ _⟩

theorem EncodedForm.ctlClrerr : Statement (.ctlClrerr) :=
  ⟨opcField_packWord _ _, mask_n _⟩

theorem EncodedForm.ctlSreset : Statement (.ctlSreset) :=
  ⟨opcField_packWord _ _, mask_n _⟩

theorem EncodedForm.bigLdi (rd : Fin 8) (data : Word) : Statement (.bigLdi rd data) :=
  ⟨opcField_packWord _ _, mask_d _ _⟩

theorem EncodedForm.bigLdlimb (rd : Fin 8) (imm : Nat) (data : Word) : Statement (.bigLdlimb rd imm data) :=
  ⟨opcField_packWord _ _, mask_di _ _ _⟩

theorem EncodedForm.bigHexin (rd : Fin 8) (data : Word) : Statement (.bigHexin rd data) :=
  ⟨opcField_packWord _ _, mask_d _ _⟩

theorem EncodedForm.bigMov (rd : Fin 8) (rs1 : Fin 8) : Statement (.bigMov rd rs1) :=
  ⟨opcField_packWord _ _, mask_ds _ _ _⟩

theorem EncodedForm.bigAdd (rd : Fin 8) (rs1 : Fin 8) (rs2 : Fin 8) : Statement (.bigAdd rd rs1 rs2) :=
  ⟨opcField_packWord _ _, mask_dss _ _ _ _⟩

theorem EncodedForm.bigSub (rd : Fin 8) (rs1 : Fin 8) (rs2 : Fin 8) : Statement (.bigSub rd rs1 rs2) :=
  ⟨opcField_packWord _ _, mask_dss _ _ _ _⟩

theorem EncodedForm.bigMul (rd : Fin 8) (rs1 : Fin 8) (rs2 : Fin 8) : Statement (.bigMul rd rs1 rs2) :=
  ⟨opcField_packWord _ _, mask_dss _ _ _ _⟩

theorem EncodedForm.bigDiv (rd : Fin 8) (rs1 : Fin 8) (rs2 : Fin 8) : Statement (.bigDiv rd rs1 rs2) :=
  ⟨opcField_packWord _ _, mask_dss _ _ _ _⟩

theorem EncodedForm.bigRem (rd : Fin 8) (rs1 : Fin 8) (rs2 : Fin 8) : Statement (.bigRem rd rs1 rs2) :=
  ⟨opcField_packWord _ _, mask_dss _ _ _ _⟩

theorem EncodedForm.bigShl (rd : Fin 8) (rs1 : Fin 8) (data : Word) : Statement (.bigShl rd rs1 data) :=
  ⟨opcField_packWord _ _, mask_ds _ _ _⟩

theorem EncodedForm.bigShr (rd : Fin 8) (rs1 : Fin 8) (data : Word) : Statement (.bigShr rd rs1 data) :=
  ⟨opcField_packWord _ _, mask_ds _ _ _⟩

theorem EncodedForm.bigAnd (rd : Fin 8) (rs1 : Fin 8) (rs2 : Fin 8) : Statement (.bigAnd rd rs1 rs2) :=
  ⟨opcField_packWord _ _, mask_dss _ _ _ _⟩

theorem EncodedForm.bigOr (rd : Fin 8) (rs1 : Fin 8) (rs2 : Fin 8) : Statement (.bigOr rd rs1 rs2) :=
  ⟨opcField_packWord _ _, mask_dss _ _ _ _⟩

theorem EncodedForm.bigCmp (rs1 : Fin 8) (rs2 : Fin 8) : Statement (.bigCmp rs1 rs2) :=
  ⟨opcField_packWord _ _, mask_ss _ _ _⟩

theorem EncodedForm.bigBitcnt (rs1 : Fin 8) : Statement (.bigBitcnt rs1) :=
  ⟨opcField_packWord _ _, mask_s _ _⟩

theorem EncodedForm.bigTrunc32 (rs1 : Fin 8) : Statement (.bigTrunc32 rs1) :=
  ⟨opcField_packWord _ _, mask_s _ _⟩

theorem EncodedForm.bigTrunc64 (rs1 : Fin 8) : Statement (.bigTrunc64 rs1) :=
  ⟨opcField_packWord _ _, mask_s _ _⟩

theorem EncodedForm.bigGetlimb (rs1 : Fin 8) (imm : Nat) : Statement (.bigGetlimb rs1 imm) :=
  ⟨opcField_packWord _ _, mask_si _ _ _⟩

theorem EncodedForm.bigNlimbs (rs1 : Fin 8) : Statement (.bigNlimbs rs1) :=
  ⟨opcField_packWord _ _, mask_s _ _⟩

theorem EncodedForm.bigHexlen (rs1 : Fin 8) : Statement (.bigHexlen rs1) :=
  ⟨opcField_packWord _ _, mask_s _ _⟩

theorem EncodedForm.bigHexdig (rs1 : Fin 8) (imm : Nat) : Statement (.bigHexdig rs1 imm) :=
  ⟨opcField_packWord _ _, mask_si _ _ _⟩

theorem EncodedForm.permId (rd : Fin 8) (imm : Nat) : Statement (.permId rd imm) :=
  ⟨opcField_packWord _ _, mask_di _ _ _⟩

theorem EncodedForm.permFromrank (rd : Fin 8) (rs1 : Fin 8) (imm : Nat) : Statement (.permFromrank rd rs1 imm) :=
  ⟨opcField_packWord _ _, mask_dsi _ _ _ _⟩

theorem EncodedForm.permRank (rd : Fin 8) (rs1 : Fin 8) : Statement (.permRank rd rs1) :=
  ⟨opcField_packWord _ _, mask_ds _ _ _⟩

theorem EncodedForm.permLdimg (imm : Nat) (data : Word) : Statement (.permLdimg imm data) :=
  ⟨opcField_packWord _ _, mask_i _ _⟩

theorem EncodedForm.permFromimg (rd : Fin 8) (imm : Nat) : Statement (.permFromimg rd imm) :=
  ⟨opcField_packWord _ _, mask_di _ _ _⟩

theorem EncodedForm.permGetimg (rs1 : Fin 8) (imm : Nat) : Statement (.permGetimg rs1 imm) :=
  ⟨opcField_packWord _ _, mask_si _ _ _⟩

theorem EncodedForm.permSize (rs1 : Fin 8) : Statement (.permSize rs1) :=
  ⟨opcField_packWord _ _, mask_s _ _⟩

theorem EncodedForm.permMov (rd : Fin 8) (rs1 : Fin 8) : Statement (.permMov rd rs1) :=
  ⟨opcField_packWord _ _, mask_ds _ _ _⟩

theorem EncodedForm.permMul (rd : Fin 8) (rs1 : Fin 8) (rs2 : Fin 8) : Statement (.permMul rd rs1 rs2) :=
  ⟨opcField_packWord _ _, mask_dss _ _ _ _⟩

theorem EncodedForm.permIsid (rs1 : Fin 8) : Statement (.permIsid rs1) :=
  ⟨opcField_packWord _ _, mask_s _ _⟩

theorem EncodedForm.permEq (rs1 : Fin 8) (rs2 : Fin 8) : Statement (.permEq rs1 rs2) :=
  ⟨opcField_packWord _ _, mask_ss _ _ _⟩

theorem EncodedForm.permShuf (rd : Fin 8) (imm : Nat) : Statement (.permShuf rd imm) :=
  ⟨opcField_packWord _ _, mask_di _ _ _⟩

theorem EncodedForm.permShufodd (rd : Fin 8) (imm : Nat) : Statement (.permShufodd rd imm) :=
  ⟨opcField_packWord _ _, mask_di _ _ _⟩

theorem EncodedForm.permSharefix (rs1 : Fin 8) (rs2 : Fin 8) : Statement (.permSharefix rs1 rs2) :=
  ⟨opcField_packWord _ _, mask_ss _ _ _⟩

theorem EncodedForm.ptInit (u : Fin 2) (rs1 : Fin 8) : Statement (.ptInit u rs1) :=
  ⟨opcField_packWord _ _, mask_us _ _ _⟩

theorem EncodedForm.ptOrder (u : Fin 2) : Statement (.ptOrder u) :=
  ⟨opcField_packWord _ _, mask_u _ _⟩

theorem EncodedForm.ptFetch (rd : Fin 8) (u : Fin 2) (data : Word) : Statement (.ptFetch rd u data) :=
  ⟨opcField_packWord _ _, mask_du _ _ _⟩

theorem EncodedForm.ptMulpow (rd : Fin 8) (rs1 : Fin 8) (u : Fin 2) (data : Word) : Statement (.ptMulpow rd rs1 u data) :=
  ⟨opcField_packWord _ _, mask_dsu _ _ _ _⟩

theorem EncodedForm.landau (imm : Nat) : Statement (.landau imm) :=
  ⟨opcField_packWord _ _, mask_i _ _⟩

theorem EncodedForm.engGena (imm : Nat) : Statement (.engGena imm) :=
  ⟨opcField_packWord _ _, mask_i _ _⟩

theorem EncodedForm.engGenb (imm : Nat) (rs1 : Fin 8) (rs2 : Fin 8) : Statement (.engGenb imm rs1 rs2) :=
  ⟨opcField_packWord _ _, mask_iss _ _ _ _⟩

theorem EncodedForm.engSeedr (rs1 : Fin 8) : Statement (.engSeedr rs1) :=
  ⟨opcField_packWord _ _, mask_s _ _⟩

theorem EncodedForm.engSeedu : Statement (.engSeedu) :=
  ⟨opcField_packWord _ _, mask_n _⟩

theorem EncodedForm.engStep : Statement (.engStep) :=
  ⟨opcField_packWord _ _, mask_n _⟩

theorem EncodedForm.engRand : Statement (.engRand) :=
  ⟨opcField_packWord _ _, mask_n _⟩

theorem EncodedForm.engMix : Statement (.engMix) :=
  ⟨opcField_packWord _ _, mask_n _⟩

theorem EncodedForm.engGetp (rd : Fin 8) : Statement (.engGetp rd) :=
  ⟨opcField_packWord _ _, mask_d _ _⟩

theorem EncodedForm.engGetd (imm : Nat) : Statement (.engGetd imm) :=
  ⟨opcField_packWord _ _, mask_i _ _⟩

end Sys2Proof.Laws
end

