-- ==== Sys2Proof/Tests/Slice0.lean ====
section
/-! SUPPORT. Tests. Expected values come from spec/95_test_vectors.md (cited as V-...) and the examples of the rules.
First the ill-formed terms, then one word for every constructor, then single steps, then for every statement with
hypotheses a state and operands that meet them, at the boundaries of its clauses. -/

open Sys2Proof Sys2Proof.Machine

/-! ## Well-formedness: an immediate of 4096 does not fit its field, 4095 does -/

theorem test_wf_refuses_imm_control : (Instr.ctlRdcsr 4096).wellFormed = false := by decide

theorem test_wf_refuses_imm_big :
    [Instr.bigLdlimb 0 4096 0, .bigGetlimb 0 4096, .bigHexdig 0 4096].all (fun i => !i.wellFormed) = true := by decide

theorem test_wf_refuses_imm_perm :
    [Instr.permId 0 4096, .permFromrank 0 0 4096, .permLdimg 4096 0, .permFromimg 0 4096, .permGetimg 0 4096,
      .permShuf 0 4096, .permShufodd 0 4096].all (fun i => !i.wellFormed) = true := by decide

theorem test_wf_refuses_imm_table_engine :
    [Instr.landau 4096, .engGena 4096, .engGenb 4096 0 0, .engGetd 4096].all (fun i => !i.wellFormed) = true := by decide

theorem test_wf_accepts : [Instr.ctlRdcsr 4095, .permId 7 4095, .engRand].all Instr.wellFormed = true := by decide

/-! ## Decoding -/

/-- The words of the family, written from the field places of 30_encoding.md R111 (30_encoding.md R117, group 0x00-0x0F). -/
theorem test_decode_control :
  decode 0b000000000000_00_0_000_000_000_00000000 9 = .ok .ctlNop ∧
  decode 0b111111111111_00_0_000_000_000_00000001 0 = .ok (.ctlRdcsr 4095) ∧
  decode 0b000000000000_00_0_000_000_000_00000010 0 = .ok .ctlClrerr ∧
  decode 0b000000000000_00_0_000_000_000_00000011 0 = .ok .ctlSreset := by
  decide

/-- The words of the family, written from the field places of 30_encoding.md R111 (group 0x10-0x2F). -/
theorem test_decode_big :
  decode 0b000000000000_00_0_000_000_101_00010000 77 = .ok (.bigLdi 5 77) ∧
  decode 0b000000001111_00_0_000_000_110_00010001 3 = .ok (.bigLdlimb 6 15 3) ∧
  decode 0b000000000000_00_0_000_000_001_00010010 97 = .ok (.bigHexin 1 0x61) ∧
  decode 0b000000000000_00_0_000_011_100_00010011 0 = .ok (.bigMov 4 3) ∧
  decode 0b000000000000_00_0_001_000_010_00010100 0 = .ok (.bigAdd 2 0 1) ∧
  decode 0b000000000000_00_0_001_111_010_00010101 0 = .ok (.bigSub 2 7 1) ∧
  decode 0b000000000000_00_0_100_011_010_00010110 0 = .ok (.bigMul 2 3 4) ∧
  decode 0b000000000000_00_0_010_001_000_00010111 0 = .ok (.bigDiv 0 1 2) ∧
  decode 0b000000000000_00_0_101_110_111_00011000 0 = .ok (.bigRem 7 6 5) ∧
  decode 0b000000000000_00_0_000_010_001_00011001 511 = .ok (.bigShl 1 2 511) ∧
  decode 0b000000000000_00_0_000_100_011_00011010 1 = .ok (.bigShr 3 4 1) ∧
  decode 0b000000000000_00_0_011_010_001_00011011 0 = .ok (.bigAnd 1 2 3) ∧
  decode 0b000000000000_00_0_110_101_100_00011100 0 = .ok (.bigOr 4 5 6) ∧
  decode 0b000000000000_00_0_001_110_000_00011101 0 = .ok (.bigCmp 6 1) ∧
  decode 0b000000000000_00_0_000_101_000_00011110 0 = .ok (.bigBitcnt 5) ∧
  decode 0b000000000000_00_0_000_100_000_00011111 0 = .ok (.bigTrunc32 4) ∧
  decode 0b000000000000_00_0_000_011_000_00100000 0 = .ok (.bigTrunc64 3) ∧
  decode 0b000000001001_00_0_000_010_000_00100001 0 = .ok (.bigGetlimb 2 9) ∧
  decode 0b000000000000_00_0_000_001_000_00100010 0 = .ok (.bigNlimbs 1) ∧
  decode 0b000000000000_00_0_000_111_000_00100011 0 = .ok (.bigHexlen 7) ∧
  decode 0b000001111111_00_0_000_110_000_00100100 0 = .ok (.bigHexdig 6 127) := by
  decide

/-- The words of the family, written from the field places of 30_encoding.md R111 (group 0x30-0x3F). -/
theorem test_decode_perm :
  decode 0b000001000000_00_0_000_000_011_00110000 0 = .ok (.permId 3 64) ∧
  decode 0b000000000101_00_0_000_010_001_00110001 0 = .ok (.permFromrank 1 2 5) ∧
  decode 0b000000000000_00_0_000_110_100_00110010 0 = .ok (.permRank 4 6) ∧
  decode 0b000000000111_00_0_000_000_000_00110011 33751041 = .ok (.permLdimg 7 0x2030001) ∧
  decode 0b000000000100_00_0_000_000_010_00110100 0 = .ok (.permFromimg 2 4) ∧
  decode 0b000000000011_00_0_000_101_000_00110101 0 = .ok (.permGetimg 5 3) ∧
  decode 0b000000000000_00_0_000_110_000_00110110 0 = .ok (.permSize 6) ∧
  decode 0b000000000000_00_0_000_010_011_00110111 0 = .ok (.permMov 3 2) ∧
  decode 0b000000000000_00_0_101_110_111_00111000 0 = .ok (.permMul 7 6 5) ∧
  decode 0b000000000000_00_0_000_011_000_00111001 0 = .ok (.permIsid 3) ∧
  decode 0b000000000000_00_0_010_001_000_00111010 0 = .ok (.permEq 1 2) ∧
  decode 0b000000100000_00_0_000_000_001_00111011 0 = .ok (.permShuf 1 32) ∧
  decode 0b000000100001_00_0_000_000_110_00111100 0 = .ok (.permShufodd 6 33) ∧
  decode 0b000000000000_00_0_111_100_000_00111101 0 = .ok (.permSharefix 4 7) := by
  decide

/-- The words of the family, written from the field places of 30_encoding.md R111 (group 0x40-0x4F). -/
theorem test_decode_table :
  decode 0b000000000000_00_1_000_101_000_01000000 0 = .ok (.ptInit 1 5) ∧
  decode 0b000000000000_00_1_000_000_000_01000001 0 = .ok (.ptOrder 1) ∧
  decode 0b000000000000_00_1_000_000_010_01000010 5 = .ok (.ptFetch 2 1 5) ∧
  decode 0b000000000000_00_1_000_011_101_01000011 2 = .ok (.ptMulpow 5 3 1 2) ∧
  decode 0b000001000000_00_0_000_000_000_01000100 0 = .ok (.landau 64) := by
  decide

/-- The words of the family, written from the field places of 30_encoding.md R111 (group 0x50-0x5F). -/
theorem test_decode_engine :
  decode 0b000000000111_00_0_000_000_000_01010000 0 = .ok (.engGena 7) ∧
  decode 0b000000100000_00_0_010_001_000_01010001 0 = .ok (.engGenb 32 1 2) ∧
  decode 0b000000000000_00_0_000_011_000_01010010 0 = .ok (.engSeedr 3) ∧
  decode 0b000000000000_00_0_000_000_000_01010011 0 = .ok .engSeedu ∧
  decode 0b000000000000_00_0_000_000_000_01010100 0 = .ok .engStep ∧
  decode 0b000000000000_00_0_000_000_000_01010101 0 = .ok .engRand ∧
  decode 0b000000000000_00_0_000_000_000_01010110 0 = .ok .engMix ∧
  decode 0b000000000000_00_0_000_000_110_01010111 0 = .ok (.engGetp 6) ∧
  decode 0b000000011111_00_0_000_000_000_01011000 0 = .ok (.engGetd 31) := by
  decide
/-- V-ENC-9 to V-ENC-16: words that decode to nothing, with the reason. -/
theorem test_decode_refuses :
    decode 0x0003C843 0 = .error .badField ∧ decode 0x00000004 0 = .error .badOpcode ∧
    decode 0xFFFFFFFF 0 = .error .badOpcode ∧ decode 0x00040014 0 = .error .badField ∧
    decode 0x00100010 0 = .error .badField ∧ decode 0x00000100 0 = .error .badField ∧
    decode 0x00000140 0 = .error .badField ∧ decode 0x00100055 0 = .error .badField := by
  decide

/-! ## Single steps -/

/-- The test parameters K_T, D_T with the default sizes (95_test_vectors.md section 1). -/
def cfgT : Config where
  bigLimbs := 16
  ptDepth := 5460
  key := Vector.ofFn fun i =>
    BitVec.ofNat 64 (0x9E3779B97F4A7C15 * (2 * (if 22 ≤ i.val ∧ i.val < 32 then i.val - 22 else i.val) + 1))
  dInit := Vector.ofFn fun i => BitVec.ofNat 64 ((i.val + 1) * 0x0101010101010101)

/-- Reset under the test parameters. -/
def start : State := { State.reset with cfg := cfgT, d := cfgT.dInit }

/-- BR[0], BR[1] set. -/
def withBr (a b : Nat) : State := (start.setBr 0 a).setBr 1 b

/-- PR[0], PR[1] set. -/
def withPr (a b : Perm) : State := (start.setPr 0 a).setPr 1 b

/-- "n = 5 engine seeded with 73" (95_test_vectors.md section 3.5). -/
def eng5 : State :=
  { start with
    pt := #v[some (ptBuild [4, 2, 3, 1, 0] 6), some (ptBuild [2, 0, 1, 4, 3] 6)]
    nEng := 5, genok := true, seeded := true, p := some [2, 4, 1, 0, 3] }

/-- "after a DIV_ZERO fault" (95_test_vectors.md section 3.7). -/
def faulted : State := { start with fault := true, errinfo := 0x170402 }

/-- One step that accepts this command with these words on offer: the state, STATUS and RESULT. -/
def run (s : State) (w : CmdWord) (data : Word) (ws : List Word) : Option (State × Nat × Nat) :=
  match step { s with cmdQ := [⟨w, data⟩], rngQ := ws } with
  | .next t => t.rsp.map fun r => (t, r.status.toNat, r.result.toNat)
  | _ => none

/-- STATUS and RESULT of that step. -/
def response (s : State) (w : CmdWord) (data : Word) : Option (Nat × Nat) :=
  (run s w data []).map fun x => x.2

/-- BR[r] after that step, which has status 0. -/
def brAfter (r : BReg) (s : State) (w : CmdWord) (data : Word) : Option Nat :=
  (run s w data []).bind fun x => if x.2.1 = 0 then some (x.1.getBr r) else none

/-- PR[r] after that step, which has status 0, and the number of words it leaves on offer. -/
def prAfter (r : PReg) (s : State) (w : CmdWord) (data : Word) (ws : List Word) : Option (Perm × Nat) :=
  (run s w data ws).bind fun x => if x.2.1 = 0 then (x.1.getPr r).map (·, x.1.rngQ.length) else none

/-! Control (V-CTL). -/

theorem test_ctlNop : response faulted 0x00000000 5 = some (0, 0) := by decide
theorem test_ctlRdcsr_cfg : response start 0x00100001 0 = some (0, 0x0000155420080810) := by decide
theorem test_ctlRdcsr_bad : response faulted 0x00600001 0 = some (3, 0x10303) := by decide
theorem test_ctlClrerr : (run faulted 0x00000002 0 []).map (fun x => (x.1.fault, x.1.errinfo)) = some (false, 0) := by
  decide
theorem test_ctlSreset : (run eng5 0x00000003 0 []).map (fun x => (x.1.p, x.1.genok, x.1.rsp)) =
    some (none, false, some ⟨0, 0⟩) := by decide

/-! BigUInt (V-BIG). -/

theorem test_bigLdi : brAfter 0 start 0x00000010 0xFFFFFFFFFFFFFFFF = some 0xFFFFFFFFFFFFFFFF := by decide
theorem test_bigLdlimb : brAfter 0 start 0x00100011 0xFFFFFFFF12345678 = some 0x1234567800000000 := by decide
theorem test_bigLdlimb_range : response start 0x01000011 1 = some (2, 0x110B02) := by decide
theorem test_bigHexin : brAfter 1 (withBr 0 0xF) 0x00000112 0x61 = some 0xFA := by decide
theorem test_bigHexin_bad : response (withBr 0 0xF) 0x00000112 0x130 = some (1, 0x120001) := by decide
theorem test_bigMov : brAfter 4 (start.setBr 3 5) 0x00001C13 0 = some 5 := by decide
theorem test_bigAdd : brAfter 2 (withBr 0xFFFFFFFF 1) 0x00004214 0 = some 0x100000000 := by decide
theorem test_bigAdd_capacity : response (withBr (2 ^ 512 - 1) 1) 0x00004214 0 = some (2, 0x140802) := by decide +kernel
theorem test_bigSub : brAfter 2 (withBr 0x100000000 1) 0x00004215 0 = some 0xFFFFFFFF := by decide
theorem test_bigSub_saturates : brAfter 2 (withBr 3 5) 0x00004215 0 = some 0 := by decide
theorem test_bigMul : brAfter 2 (withBr 0xFFFFFFFFFFFFFFFF 2) 0x00004216 0 = some 0x1FFFFFFFFFFFFFFFE := by decide
theorem test_bigDiv : brAfter 2 (withBr 0x10 3) 0x00004217 0 = some 5 := by decide
theorem test_bigDiv_zero : response (withBr 7 0) 0x00004217 0 = some (2, 0x170402) := by decide
theorem test_bigRem : brAfter 2 (withBr 0x10 3) 0x00004218 0 = some 1 := by decide
theorem test_bigShl : brAfter 1 (withBr 1 0) 0x00000119 0x20 = some 0x100000000 := by decide
theorem test_bigShl_capacity : response (withBr 1 0) 0x00000119 0x200 = some (2, 0x190802) := by decide
theorem test_bigShr : brAfter 1 (withBr 0x1FFFFFFFFFFFFFFFE 0) 0x0000011A 1 = some 0xFFFFFFFFFFFFFFFF := by decide
theorem test_bigShr_far : brAfter 1 (withBr 0x1FFFFFFFFFFFFFFFE 7) 0x0000011A 0xFFFFFFFFFFFFFFFF = some 0 := by decide
theorem test_bigAnd : brAfter 2 (withBr 0x100000001 0xFFFFFFFF) 0x0000421B 0 = some 1 := by decide
theorem test_bigOr : brAfter 2 (withBr 0xF0 0x100000000) 0x0000421C 0 = some 0x1000000F0 := by decide
theorem test_bigCmp_less : response (withBr 3 5) 0x0000401D 0 = some (0, 0xFFFFFFFFFFFFFFFF) := by decide
theorem test_bigCmp_greater : response (withBr 0x100000000 0xFFFFFFFF) 0x0000401D 0 = some (0, 1) := by decide
theorem test_bigBitcnt : response (withBr 0x100000000 0) 0x0000001E 0 = some (0, 33) := by decide
theorem test_bigTrunc32 : response (withBr 0x123456789 0) 0x0000001F 0 = some (0, 0x23456789) := by decide
theorem test_bigTrunc64 : response (withBr 0x1FFFFFFFFFFFFFFFE 0) 0x00000020 0 = some (0, 0xFFFFFFFFFFFFFFFE) := by
  decide
theorem test_bigGetlimb : response (withBr 0x1FFFFFFFFFFFFFFFE 0) 0x00200021 0 = some (0, 1) := by decide
theorem test_bigNlimbs : response (withBr 0x100000000 0) 0x00000022 0 = some (0, 2) := by decide
theorem test_bigHexlen : response (withBr 0x10 0) 0x00000023 0 = some (0, 2) := by decide
theorem test_bigHexdig : response (withBr 0x1FFFFFFFFFFFFFFFE 0) 0x01000024 0 = some (0, 0x45) := by decide
theorem test_bigHexdig_range : response (withBr 0x1FFFFFFFFFFFFFFFE 0) 0x01100024 0 = some (2, 0x240B02) := by decide

/-! Permutations (V-PERM). -/

theorem test_permId : prAfter 0 start 0x00400030 0 [] = some ([0, 1, 2, 3], 0) := by decide
theorem test_permId_65 : response start 0x04100030 0 = some (2, 0x300302) := by decide
theorem test_permFromrank : prAfter 0 (withBr 193 0) 0x00500031 0 [] = some ([2, 4, 1, 0, 3], 0) := by decide
theorem test_permRank : brAfter 1 (withPr [2, 4, 1, 0, 3] [0]) 0x00000132 0 = some 73 := by decide
theorem test_permLdimg : (run start 0x00100033 0x0807060504030201 []).map (fun x => (x.1.imgbuf.toList.take 17)) =
    some [0, 0, 0, 0, 0, 0, 0, 0, 1, 2, 3, 4, 5, 6, 7, 8, 0] := by decide
theorem test_permFromimg : prAfter 2 (start.setImg (stageChunk start.imgbuf 0 0x2030001)) 0x00400234 0 [] =
    some ([1, 0, 3, 2], 0) := by decide
theorem test_permFromimg_repeat : response (start.setImg (stageChunk start.imgbuf 0 0x2030001)) 0x00500234 0 =
    some (2, 0x340502) := by decide
theorem test_permGetimg : response (withPr [2, 4, 1, 0, 3] [0]) 0x00000035 0 = some (0, 0x0000000300010402) := by decide
theorem test_permGetimg_order : response start 0x00800035 0 = some (2, 0x350B02) := by decide
theorem test_permSize : response (withPr [2, 4, 1, 0, 3] [0]) 0x00000036 0 = some (0, 5) := by decide
theorem test_permMov : prAfter 3 (withPr [1, 0, 3, 2] [0]) 0x00000337 0 [] = some ([1, 0, 3, 2], 0) := by decide
theorem test_permMul : prAfter 2 (withPr [1, 0, 3, 2] [1, 2, 3, 0]) 0x00000A38 0 [] = some ([0, 3, 2, 1], 0) := by decide
theorem test_permMul_in_place : prAfter 0 (withPr [1, 2, 0] [0]) 0x00000038 0 [] = some ([2, 0, 1], 0) := by decide
theorem test_permIsid : response (withPr [1, 0, 3, 2] [0]) 0x00000039 0 = some (0, 0) := by decide
theorem test_permEq : response (withPr [0, 1, 2, 3] [0, 1, 2, 3, 4]) 0x0000403A 0 = some (0, 0) := by decide
theorem test_permShuf : prAfter 0 start 0x0040003B 0 [5, 7, 9, 1] = some ([1, 2, 3, 0], 1) := by decide
theorem test_permShuf_large_words :
    prAfter 0 start 0x0030003B 0 [0xFFFFFFFFFFFFFFFF, 0xFFFFFFFFFFFFFFFF] = some ([0, 2, 1], 0) := by decide
theorem test_permShufodd : prAfter 0 start 0x0040003C 0 [5, 7] = some ([1, 2, 3, 0], 0) := by decide
theorem test_permShufodd_fix_up : prAfter 0 start 0x0040003C 0 [0, 0] = some ([0, 1, 3, 2], 0) := by decide
theorem test_permSharefix : response (withPr [0, 2, 1] [1, 0, 2]) 0x0000403D 0 = some (0, 0) := by decide
theorem test_permSharefix_common : response (withPr [0, 2, 1] [0, 1, 2]) 0x0000403D 0 = some (0, 1) := by decide

/-! Power tables (V-PT). -/

/-- PT[0] built from (1,2,0), and PR[5] = (1,2,0) (S6). -/
def table3 : State := (start.setPt 0 (ptBuild [1, 2, 0] 3)).setPr 5 [1, 2, 0]

theorem test_ptInit : (run (start.setPr 5 [1, 2, 0]) 0x00002840 0 []).map (fun x => (x.1.getPt 0, x.2.1)) =
    some (some ⟨3, 3, [[0, 1, 2], [1, 2, 0], [2, 0, 1]]⟩, 0) := by decide
theorem test_ptInit_unloads : (run (eng5.setPr 0 [0, 1]) 0x00000040 0 []).map
    (fun x => (x.1.nEng, x.1.genok, x.1.seeded)) = some (0, false, false) := by decide
theorem test_ptOrder : response table3 0x00000041 0 = some (0, 3) := by decide
theorem test_ptFetch : prAfter 6 table3 0x00000642 2 [] = some ([2, 0, 1], 0) := by decide
theorem test_ptFetch_range : response table3 0x00000642 3 = some (2, 0x420202) := by decide
theorem test_ptMulpow : prAfter 5 table3 0x00002D43 2 [] = some ([0, 1, 2], 0) := by decide
theorem test_ptMulpow_order : response start 0x00000843 9 = some (2, 0x430602) := by decide
theorem test_landau : response start 0x04000044 0 = some (0, 2042040) := by decide
theorem test_landau_65 : response start 0x04100044 0 = some (2, 0x440302) := by decide

/-! The engine (V-ENG). -/

theorem test_engGena : (run start 0x00200050 0 [2, 3]).map
    (fun x => (x.1.getPt 0, x.1.getPt 1, x.1.nEng, x.1.draws)) =
    some (some (ptBuild [1, 0] 2), some (ptBuild [1, 0] 2), 2, 2) := by decide
theorem test_engGena_no_odd : response start 0x00F00050 0 = some (2, 0x500A02) := by decide
theorem test_engGenb : (run ((start.setBr 1 2).setBr 2 212) 0x00508851 0 []).map
    (fun x => (x.1.getPt 0 == eng5.getPt 0, x.1.getPt 1 == eng5.getPt 1, x.1.genok)) = some (true, true, true) := by decide
theorem test_engGenb_order : response start 0x02208851 0 = some (2, 0x510702) := by decide +kernel
theorem test_engSeedr : (run { eng5.setBr 3 73 with t := 5, b := 1, p := none } 0x00001852 0 []).map
    (fun x => (x.1.p, x.1.t, x.1.b)) = some (some [2, 4, 1, 0, 3], 0, 0) := by decide
theorem test_engSeedu : (run { eng5 with nEng := 4 } 0x00000053 0 [5, 7, 9]).map
    (fun x => (x.1.p, x.1.draws)) = some (some [1, 2, 3, 0], 3) := by decide
theorem test_engStep : (run eng5 0x00000054 0 []).map (fun x => (x.1.p, x.1.b, x.1.t)) =
    some (some [1, 0, 3, 4, 2], 1, 0) := by decide
theorem test_engRand : (run eng5 0x00000055 0 []).map (fun x => (x.2.2, x.1.t, x.1.d[0])) =
    some (0x88828526170C101A, 1, 0x8A808724150E1218) := by decide
theorem test_engMix : response eng5 0x00000056 0 = some (0, 0xEE3BF1CC19465288) := by decide
theorem test_engGetp : prAfter 0 eng5 0x00000057 0 [] = some ([2, 4, 1, 0, 3], 0) := by decide
theorem test_engGetd : response start 0x01F00058 0 = some (0, 0x2020202020202020) := by decide
theorem test_engGetd_range : response start 0x02000058 0 = some (2, 0x580B02) := by decide

/-! Faults and channels (V-EXC). -/

theorem test_fault_pending : response faulted 0x00000314 0 = some (4, 0x170402) := by decide
theorem test_bad_opcode : response start 0x00000004 0 = some (3, 0x40103) := by decide
theorem test_bad_field_before_pending : response faulted 0x00100010 0 = some (3, 0x100203) := by decide
theorem test_first_fault_is_kept :
    (run faulted 0x00000004 0 []).map (fun x => (x.1.errinfo, x.2.2)) = some (0x170402, 0x40103) := by decide

/-! ## Witnesses: for each statement with hypotheses, a state and operands that meet them -/

/-- The instruction answers a next state that reports this cause. -/
def faultsWithB (i : Instr) (s : State) (c : Cause) : Bool :=
  match exec i s with
  | .next t => decide (t = s.faultEntry i.opcode.code c)
  | _ => false

/-! Encoding. -/

theorem witness_DecodeOfEncode : (Instr.permFromrank 7 7 4095).wellFormed = true ∧
    (Instr.ptMulpow 7 7 1 0xFFFFFFFFFFFFFFFF).wellFormed = true := by decide

theorem witness_EncodeOfDecode : decode 0xFFF0F851 5 = .ok (.engGenb 4095 7 3) := by decide

/-- The reserved values at the ends of each range of 30_encoding.md R118, and their neighbours. -/
theorem witness_ReservedOpcodesAreRefused :
    [0x04, 0x0F, 0x25, 0x2F, 0x3E, 0x3F, 0x45, 0x4F, 0x59, 0xFF].Forall ReservedOpc ∧
    [0x03, 0x10, 0x24, 0x30, 0x3D, 0x40, 0x44, 0x50, 0x58].Forall (¬ReservedOpc ·) ∧
    Accepts { start with cmdQ := [⟨0xFFFFFFFF, 0⟩] } ⟨0xFFFFFFFF, 0⟩ [] ∧
    ReservedOpc (opcField 0xFFFFFFFF).toNat := by
  refine ⟨?_, ?_, ⟨rfl, rfl, rfl, rfl⟩, ?_⟩ <;> unfold ReservedOpc <;> decide

theorem witness_UnusedFieldsMustBeZero :
    Opcode.ofCode (opcField 0x0003C843) = some .ptMulpow ∧ ¬UnusedZero (fieldsOf 0x0003C843) .dsu ∧
    Opcode.ofCode (opcField 0x00040014) = some .bigAdd ∧ UnusedZero (fieldsOf 0x00040014) .dss ∧
    (0x00040014 : CmdWord).extractLsb' 18 2 ≠ 0 ∧ UnusedZero (fieldsOf 0x00004214) .dss ∧
    decode 0x00004214 0 = .ok (.bigAdd 2 0 1) ∧ decode 0x00004214 1 = .ok (.bigAdd 2 0 1) ∧
    Accepts { start with cmdQ := [⟨0x0003C843, 0⟩] } ⟨0x0003C843, 0⟩ [] ∧
    decode 0x0003C843 0 = .error .badField := by
  refine ⟨?_, ?_, ?_, ?_, ?_, ?_, ?_, ?_, ⟨rfl, rfl, rfl, rfl⟩, ?_⟩ <;> (try unfold UnusedZero) <;> decide

/-! Steps and channels. -/

theorem witness_StepRunsTheDecodedInstruction :
    Accepts { start with cmdQ := [⟨0x00004214, 0⟩] } ⟨0x00004214, 0⟩ [] ∧ decode 0x00004214 0 = .ok (.bigAdd 2 0 1) ∧
    (start.rstN = true ∧ start.rsp = none ∧ start.pending = none ∧ start.cmdQ = []) :=
  ⟨⟨rfl, rfl, rfl, rfl⟩, by decide, rfl, rfl, rfl, rfl⟩

/-- A shuffle of size 4 that has taken the word 5 and waits. -/
def waitingShuffle : State := { start with pending := some (.permShuf 0 4), taken := [5], draws := 1 }

theorem witness_StepRuns_waiting :
    waitingShuffle.rstN = true ∧ waitingShuffle.rsp = none ∧ waitingShuffle.pending = some (.permShuf 0 4) :=
  ⟨rfl, rfl, rfl⟩

theorem witness_ResetPinResetsEverything : ({ waitingShuffle with rstN := false } : State).rstN = false := rfl

theorem witness_ResponseIsHeldUntilTaken (ready : Bool) :
    let s : State := { start with rsp := some ⟨0, 7⟩, rspReady := ready }
    s.rstN = true ∧ s.rsp = some ⟨0, 7⟩ ∧ s.rspReady = ready :=
  ⟨rfl, rfl, rfl⟩

/-! Invariants. -/

theorem cfgT_wf : cfgT.Wf := by decide

theorem small_brBound {s : State} (hc : 2 ≤ s.cfg.bigLimbs) (hb : ∀ r, s.getBr r < 2 ^ 64) (r : BReg) :
    s.getBr r < 2 ^ (32 * s.cfg.bigLimbs) :=
  Nat.lt_of_lt_of_le (hb r) (Nat.pow_le_pow_right (by decide) (by omega))

theorem start_getPr : ∀ r, start.getPr r = none := by decide

theorem start_getPt : ∀ u, start.getPt u = none := by decide

theorem start_inv : start.Inv where
  cfgWf := cfgT_wf
  brBound := small_brBound (by decide) (by decide)
  prWf r p h := by
    rw [start_getPr] at h
    cases h
  ptValid u g h := by
    rw [start_getPt] at h
    cases h
  pWf p h := by cases h
  genokTables h := by cases h
  noGenerators _ := ⟨rfl, rfl⟩
  seededP h := by cases h
  noFaultInfo _ := rfl
  faultCode h := by cases h
  noneTaken _ := rfl
  waiting i h := by cases h

theorem faulted_inv : faulted.Inv :=
  { start_inv with
    brBound := small_brBound (by decide) (by decide)
    noFaultInfo := fun h => by cases h
    faultCode := fun _ => by decide
    noGenerators := fun _ => ⟨rfl, rfl⟩
    genokTables := fun h => by cases h
    seededP := fun h => by cases h
    waiting := fun i h => by cases h }

theorem waitingShuffle_inv : waitingShuffle.Inv :=
  { start_inv with
    brBound := small_brBound (by decide) (by decide)
    noneTaken := fun h => by cases h
    waiting := fun i h => by
      cases h
      exact ⟨rfl, rfl, by decide, by decide, by decide⟩ }

theorem isOrder_swap : IsOrder [1, 0] 2 := by
  refine ⟨by decide, by decide, fun j h1 h2 => ?_⟩
  obtain rfl : j = 1 := by omega
  decide

theorem table_swap : TableOf (ptBuild [1, 0] 2) [1, 0] := ⟨by decide, rfl, isOrder_swap, by decide⟩

/-- The engine of size 2 with both generators (1,0), seeded with P = (1,0). -/
def eng2 : State :=
  { start with
    pt := #v[some (ptBuild [1, 0] 2), some (ptBuild [1, 0] 2)]
    nEng := 2, genok := true, seeded := true, p := some [1, 0] }

theorem eng2_getPt (u : PtUnit) : eng2.getPt u = some (ptBuild [1, 0] 2) := by revert u; decide

theorem eng2_inv : eng2.Inv :=
  { start_inv with
    brBound := small_brBound (by decide) (by decide)
    waiting := fun i h => by cases h
    ptValid := fun u g h => by
      rw [eng2_getPt] at h
      cases h
      exact ⟨⟨_, table_swap⟩, by decide⟩
    pWf := fun p h => by
      cases h
      decide
    genokTables := fun _ => ⟨by decide, fun u => ⟨_, eng2_getPt u, rfl, rfl⟩⟩
    noGenerators := fun h => by cases h
    seededP := fun _ => ⟨rfl, _, rfl, rfl⟩ }

theorem witness_DrawWaitsWithoutLimit : waitingShuffle.Inv ∧ waitingShuffle.rstN = true ∧
    waitingShuffle.pending = some (.permShuf 0 4) ∧ waitingShuffle.rngQ = [] :=
  ⟨waitingShuffle_inv, rfl, rfl, rfl⟩

/-- A waiting selection of generators also meets the hypotheses: an attempt of size 4 that has its first two words. -/
theorem witness_DrawWaits_selection :
    let s : State := { start with pending := some (.engGena 4), taken := [5, 7], draws := 2 }
    s.Inv ∧ s.rstN = true ∧ s.pending = some (.engGena 4) ∧ s.rngQ = [] :=
  ⟨{ start_inv with
     brBound := small_brBound (by decide) (by decide)
     noneTaken := fun h => by cases h
     waiting := fun i h => by
      cases h
      exact ⟨rfl, rfl, by decide, by decide, by decide, by decide, by decide⟩ }, rfl, rfl, rfl⟩

theorem witness_StepKeepsInv : eng2.Inv ∧ ∃ t, step { eng2 with cmdQ := [⟨0x55, 0⟩] } = .next t ∧ t.t = 1 :=
  ⟨eng2_inv, _, rfl, by decide⟩

theorem witness_StepNeverStops : ({ eng2 with cmdQ := [⟨0x55, 0⟩] } : State).Inv :=
  { eng2_inv with brBound := small_brBound (by decide) (by decide) }

/-! Faults. -/

/-- Each kind of response from a state with the invariant: status 0, 4, and 1, 2, 3, the latter also while FAULT = 1. -/
theorem witness_FaultsArePrecise :
    ({ start with cmdQ := [⟨0x12, 0x67⟩] } : State).Inv ∧ ({ faulted with cmdQ := [⟨0x314, 0⟩] } : State).Inv ∧
    response start 0x00000012 0x39 = some (0, 0) ∧ response faulted 0x00000314 0 = some (4, 0x170402) ∧
    response start 0x00000012 0x67 = some (1, 0x120001) ∧ response start 0x00008817 0 = some (2, 0x170402) ∧
    response faulted 0x00000004 0 = some (3, 0x40103) :=
  ⟨{ start_inv with brBound := small_brBound (by decide) (by decide) },
    { faulted_inv with brBound := small_brBound (by decide) (by decide) },
    by decide, by decide, by decide, by decide, by decide⟩

theorem witness_FirstFailingCheckIsReported :
    let s := withPr [0, 1, 2, 3] [0, 1, 2, 3, 4]
    s.fault = false ∧
    checks s (.permMul 2 0 1) =
      [(.emptyOperand, s.getPr 0 = none), (.emptyOperand, s.getPr 1 = none)] ++
        (.sizeMismatch, (s.getPr 0).map List.length ≠ (s.getPr 1).map List.length) :: [] ∧
    ¬(s.getPr 0 = none) ∧ ¬(s.getPr 1 = none) ∧ (s.getPr 0).map List.length ≠ (s.getPr 1).map List.length ∧
    faulted.fault = true ∧ isControl (.ctlRdcsr 6) = true ∧ checks faulted (.ctlRdcsr 6) = [(.badCsr, 5 < 6)] :=
  ⟨rfl, rfl, by decide, by decide, by decide, rfl, rfl, rfl⟩

theorem witness_CommandCompletesWhenNoCheckFails :
    start.Inv ∧ start.pending = none ∧ start.fault = false ∧ (∀ x ∈ checks start (.permShuf 0 4), ¬x.2) ∧
    (∀ x ∈ checks start (.engGetd 31), ¬x.2) ∧ (∀ x ∈ checks eng2 .engRand, ¬x.2) := by
  refine ⟨start_inv, rfl, rfl, ?_, ?_, ?_⟩ <;> simp [checks, eng2]

theorem witness_FaultPendingChangesNothing : faulted.fault = true ∧
    (Instr.bigAdd 3 0 0).opcode ∉ [Opcode.ctlNop, .ctlRdcsr, .ctlClrerr, .ctlSreset] ∧
    response faulted 0x00200001 0 = some (0, 1) ∧ response faulted 0x00300001 0 = some (0, 0x170402) ∧
    response faulted 0x00500001 0 = some (0, 0) ∧ response faulted 0x00600001 0 = some (3, 0x010303) := by decide

/-! Control. -/

theorem witness_ReadCsr : eng2.Inv ∧ faulted.Inv ∧ response eng5 0x00500001 0 = some (0, 5) ∧
    faultsWithB (.ctlRdcsr 6) eng2 .badCsr = true := ⟨eng2_inv, faulted_inv, by decide, by decide⟩

/-! BigUInt. -/

theorem witness_BigLoads : start.fault = false ∧ 15 < start.cfg.bigLimbs ∧ start.cfg.bigLimbs ≤ 16 := by decide

/-- The ends of the three digit ranges, the characters next to them, and a value at each side of CAP. -/
theorem witness_BigHexCharacters :
    IsHexCode 0x30 0 ∧ IsHexCode 0x39 9 ∧ IsHexCode 0x41 10 ∧ IsHexCode 0x46 15 ∧ IsHexCode 0x61 10 ∧ IsHexCode 0x66 15 ∧
    [0x2F, 0x3A, 0x40, 0x47, 0x60, 0x67, 0x130].all (fun c => faultsWithB (.bigHexin 0 c) start .invalidHexDigit) = true ∧
    (let s := withBr (2 ^ 508) 0; s.fault = false ∧ 2 ^ (32 * s.cfg.bigLimbs) ≤ s.getBr 0 * 16 + 0) ∧
    (let s := withBr (2 ^ 508 - 1) 0; s.fault = false ∧ s.getBr 0 * 16 + 15 < 2 ^ (32 * s.cfg.bigLimbs)) ∧
    IsLength 16 (withBr 0x10 0 |>.getBr 0) 2 ∧ IsLength 16 0 1 := by
  refine ⟨?_, ?_, ?_, ?_, ?_, ?_, ?_, ?_, ?_, ?_, ?_⟩ <;> (try unfold IsHexCode) <;> (try unfold IsLength) <;>
    decide +kernel

theorem witness_BigAddSubMul :
    (let s := withBr (2 ^ 512 - 2) 1; s.fault = false ∧ s.getBr 0 + s.getBr 1 < 2 ^ (32 * s.cfg.bigLimbs)) ∧
    (let s := withBr (2 ^ 512 - 1) 1; s.fault = false ∧ 2 ^ (32 * s.cfg.bigLimbs) ≤ s.getBr 0 + s.getBr 1) ∧
    (let s := withBr (2 ^ 256) (2 ^ 256 - 1); s.getBr 0 * s.getBr 1 < 2 ^ (32 * s.cfg.bigLimbs)) ∧
    (let s := withBr (2 ^ 256) (2 ^ 256); 2 ^ (32 * s.cfg.bigLimbs) ≤ s.getBr 0 * s.getBr 1) := by
  decide +kernel

theorem witness_BigDivRem : (withBr 7 0).fault = false ∧ (withBr 7 0).getBr 1 = 0 ∧ (withBr 7 1).getBr 1 ≠ 0 := by decide

theorem witness_BigShifts :
    (let s := withBr 1 0; s.fault = false ∧ s.getBr 0 * 2 ^ (511 : Word).toNat < 2 ^ (32 * s.cfg.bigLimbs)) ∧
    (let s := withBr 1 0; 2 ^ (32 * s.cfg.bigLimbs) ≤ s.getBr 0 * 2 ^ (512 : Word).toNat) := by
  decide +kernel

theorem witness_BigBitwiseAndCompare : (withBr 5 3).fault = false := rfl

theorem withBr_inv : (withBr 0x100000000 0).Inv := { start_inv with brBound := small_brBound (by decide) (by decide) }

theorem witness_BigLengths : (withBr 0x100000000 0).Inv ∧ (withBr 0x100000000 0).fault = false ∧
    (withBr 0x100000000 0).getBr 0 ≠ 0 ∧ (withBr 0x100000000 0).getBr 1 = 0 := ⟨withBr_inv, rfl, by decide, by decide⟩

theorem witness_BigTruncationsAndLimb : start.fault = false ∧ 15 < start.cfg.bigLimbs ∧ start.cfg.bigLimbs ≤ 16 := by
  decide

/-- The strings "0" and "fA", and the 128 digits that fill a register. -/
theorem witness_HexStringsRoundTrip :
    start.fault = false ∧ start.pending = none ∧
    List.Forall₂ IsHexCode [0x66, 0x41] [15, 10] ∧ (∃ d rest, [15, 10] = d :: rest ∧ d ≠ 0) ∧
    List.Forall₂ IsHexCode [0x30] [0] ∧ List.Forall₂ IsHexCode (List.replicate 128 0x46) (List.replicate 128 15) ∧
    (List.replicate 128 15).length ≤ 8 * start.cfg.bigLimbs ∧ (List.replicate 128 15).length < 2 ^ 64 := by
  have h : IsHexCode 0x46 15 := by unfold IsHexCode; decide
  refine ⟨rfl, rfl, ?_, ⟨15, [10], rfl, by decide⟩, ?_, ?_, ?_, ?_⟩
  · exact .cons (by unfold IsHexCode; decide) (.cons (by unfold IsHexCode; decide) .nil)
  · exact .cons (by unfold IsHexCode; decide) .nil
  · generalize 128 = n
    induction n with
    | zero => exact .nil
    | succ n ih => exact .cons h ih
  all_goals rw [List.length_replicate]; decide

theorem witness_BigCommandsUndo :
    let s := withBr 6 7
    s.fault = false ∧ s.pending = none ∧ (2 : BReg) ≠ 1 ∧ s.getBr 0 + s.getBr 1 < 2 ^ (32 * s.cfg.bigLimbs) ∧
    0 < s.getBr 1 ∧ s.getBr 0 * s.getBr 1 < 2 ^ (32 * s.cfg.bigLimbs) ∧
    s.getBr 0 * 2 ^ (509 : Word).toNat < 2 ^ (32 * s.cfg.bigLimbs) := by decide +kernel

/-! Permutations. -/

theorem witness_PermIdentityAndMove :
    let s := withPr [1, 0, 3, 2] [0]
    s.fault = false ∧ s.getPr 0 = some [1, 0, 3, 2] ∧ s.getPr 2 = none ∧ faultsWithB (.permId 0 0) s .badN = true ∧
    faultsWithB (.permId 0 65) s .badN = true ∧ (prAfter 0 s 0x00100030 0 []).isSome = true ∧
    (prAfter 0 s 0x04000030 0 []).isSome = true := by decide

/-- The corner cases of PERM_FROMRANK at n = 5: ranks 0, 5! - 1 and 5!. -/
theorem witness_PermFromRank :
    (withBr 0 0).fault = false ∧ (withBr 0 0).getBr 0 = 0 ∧ (withBr 119 0).getBr 0 % (5).factorial = (5).factorial - 1 ∧
    fromRank 5 0 = [4, 3, 2, 1, 0] ∧ fromRank 5 119 = [0, 1, 2, 3, 4] ∧ fromRank 5 120 = [4, 3, 2, 1, 0] := by decide

theorem witness_PermRank :
    let s := withPr [2, 4, 1, 0, 3] (List.range 64)
    s.fault = false ∧ s.getPr 2 = none ∧ s.getPr 0 = some [2, 4, 1, 0, 3] ∧ WfPerm [2, 4, 1, 0, 3] ∧
    s.getPr 1 = some (List.range 64) ∧ WfPerm (List.range 64) :=
  ⟨rfl, by decide, by decide, by decide, rfl,
    ⟨⟨by simp, by simp⟩, fun x h => by simpa using h, List.nodup_range⟩⟩

theorem witness_RankAndUnrankAreInverse : (1 ≤ 64 ∧ 64 ≤ 64) ∧ WfPerm [0] ∧ WfPerm [2, 4, 1, 0, 3] := by decide

/-- IMGBUF starting (1,0,3,2,0,...): a permutation at n = 4, none at n = 5. -/
theorem witness_PermImages :
    let s := start.setImg (stageChunk start.imgbuf 0 0x2030001)
    let a (n : Nat) := (List.range n).map fun x => (s.imgbuf.toList.getD x 0).toNat
    s.fault = false ∧ ((∀ x ∈ a 4, x < 4) ∧ (a 4).Nodup) ∧ ¬((∀ x ∈ a 5, x < 5) ∧ (a 5).Nodup) ∧
    faultsWithB (.permLdimg 8 1) s .indexRange = true ∧ (run s 0x00700033 1 []).isSome = true := by decide

theorem witness_PermReadImageAndSize :
    let s := withPr [2, 4, 1, 0, 3] [0]
    s.fault = false ∧ s.getPr 0 = some [2, 4, 1, 0, 3] ∧ WfPerm [2, 4, 1, 0, 3] ∧ s.getPr 2 = none ∧
    response s 0x00700035 0 = some (0, 0) ∧ faultsWithB (.permGetimg 2 8) s .indexRange = true ∧
    faultsWithB (.permGetimg 2 7) s .emptyOperand = true := by decide

theorem witness_PermMultiply :
    let s := withPr [1, 0, 3, 2] [1, 2, 3, 0]
    s.fault = false ∧ s.getPr 0 = some [1, 0, 3, 2] ∧ s.getPr 1 = some [1, 2, 3, 0] ∧ s.getPr 2 = none ∧
    WfPerm [1, 0, 3, 2] ∧ WfPerm [1, 2, 3, 0] ∧
    faultsWithB (.permMul 2 0 1) (withPr [0, 1, 2, 3] [0, 1, 2, 3, 4]) .sizeMismatch = true := by decide

theorem witness_CompositionIsAGroup : WfPerm [1, 0, 3, 2] ∧ WfPerm [1, 2, 3, 0] ∧ WfPerm [2, 3, 0, 1] := by decide

theorem witness_PermTests :
    let s := withPr [0, 2, 1] [0, 1, 2]
    s.fault = false ∧ s.getPr 0 = some [0, 2, 1] ∧ s.getPr 1 = some [0, 1, 2] ∧ s.getPr 2 = none ∧
    faultsWithB (.permSharefix 0 1) (withPr [0, 1, 2] [0, 1, 2, 3]) .sizeMismatch = true := by decide

theorem witness_PermSampling :
    let s : State := { start with rngQ := [5, 7, 9, 1] }
    s.fault = false ∧ s.taken = [] ∧ s.rngQ = [5, 7, 9] ++ [1] ∧ [5, 7, 9].length = 4 - 1 ∧
    s.rngQ = [5, 7] ++ [9, 1] ∧ [5, 7].length = 4 - 2 ∧ s.rngQ = [] ++ [5, 7, 9, 1] ∧
    faultsWithB (.permShuf 0 0) s .badN = true ∧ faultsWithB (.permShufodd 0 65) s .badN = true ∧
    faultsWithB (.permShufodd 0 1) s .noOdd = true := by decide

theorem witness_ShuffleGivesEachPermutationOnce : WfPerm [2, 4, 1, 0, 3] ∧ ([2, 4, 1, 0, 3] : Perm).length = 5 := by decide

theorem witness_OddShuffleGivesEachOddPermutationOnce :
    WfPerm [1, 0] ∧ inversions [1, 0] % 2 = 1 ∧ WfPerm [1, 2, 3, 0] ∧ inversions [1, 2, 3, 0] % 2 = 1 := by decide

/-- A shuffle of size 4 with two of its three words waits, and the third word ends the wait. -/
theorem witness_WaitingIsTransparent :
    let s : State := { start with rngQ := [5, 7] }
    isDrawing (.permShuf 0 4) = true ∧ s.fault = false ∧ s.pending = none ∧
    ∃ t, exec (.permShuf 0 4) s = .next t ∧ t.pending = some (.permShuf 0 4) ∧ t.taken = [5, 7] ∧ t.draws = 2 ∧
      ∃ u, exec (.permShuf 0 4) { t with pending := none, rngQ := [9] } = .next u ∧ u.getPr 0 = some [1, 2, 3, 0] ∧
        u.draws = 3 :=
  ⟨rfl, rfl, rfl, _, rfl, by decide, by decide, by decide, _, rfl, by decide, by decide⟩

/-! Power tables. -/

theorem isOrder_cycle3 : IsOrder [1, 2, 0] 3 := by
  refine ⟨by decide, by decide, fun j h1 h2 => ?_⟩
  obtain rfl | rfl : j = 1 ∨ j = 2 := by omega
  all_goals decide

theorem table_cycle3 : TableOf (ptBuild [1, 2, 0] 3) [1, 2, 0] := ⟨by decide, rfl, isOrder_cycle3, by decide⟩

theorem witness_TableInit :
    start.fault = false ∧ table3.getPr 5 = some [1, 2, 0] ∧ table3.getPr 0 = none ∧ WfPerm [1, 2, 0] ∧
    IsOrder [1, 2, 0] 3 ∧ 3 ≤ table3.cfg.ptDepth ∧
    ({ table3 with cfg := { cfgT with ptDepth := 2 } } : State).cfg.ptDepth < 3 :=
  ⟨rfl, by decide, by decide, by decide, isOrder_cycle3, by decide, by decide⟩

theorem witness_TableProducts :
    TableOf (ptBuild [1, 2, 0] 3) [1, 2, 0] ∧ (ptBuild [1, 2, 0] 3).tab[2]? = some [2, 0, 1] ∧ table3.fault = false ∧
    table3.getPt 0 = some (ptBuild [1, 2, 0] 3) ∧ (ptBuild [1, 2, 0] 3).k ≤ (3 : Word).toNat ∧
    table3.getPr 5 = some [1, 2, 0] :=
  ⟨table_cycle3, by decide, rfl, by decide, by decide, by decide⟩

theorem witness_TableReads :
    table3.fault = false ∧ table3.getPt 0 = some (ptBuild [1, 2, 0] 3) ∧ TableOf (ptBuild [1, 2, 0] 3) [1, 2, 0] ∧
    (2 : Word).toNat < (ptBuild [1, 2, 0] 3).k ∧ (ptBuild [1, 2, 0] 3).k ≤ (3 : Word).toNat ∧ table3.getPt 1 = none ∧
    table3.getPr 5 = some [1, 2, 0] ∧ table3.getPr 0 = none ∧
    faultsWithB (.ptMulpow 1 0 0 1) (table3.setPr 0 [0, 1, 2, 3]) .sizeMismatch = true :=
  ⟨rfl, by decide, table_cycle3, by decide, by decide, by decide, by decide, by decide, by decide⟩

theorem witness_LandauLookup : start.fault = false ∧ faultsWithB (.landau 65) start .badN = true ∧
    response start 0x00000044 0 = some (0, 1) := by decide

/-! The engine. -/

theorem isOrder_cycle4 : IsOrder [1, 2, 3, 0] 4 := by
  refine ⟨by decide, by decide, fun j h1 h2 => ?_⟩
  obtain rfl | rfl | rfl : j = 1 ∨ j = 2 ∨ j = 3 := by omega
  all_goals decide

theorem isOrder_cycle6 : IsOrder [0, 2, 1, 4, 5, 3] 6 := by
  refine ⟨by decide, by decide, fun j h1 h2 => ?_⟩
  obtain rfl | rfl | rfl | rfl | rfl : j = 1 ∨ j = 2 ∨ j = 3 ∨ j = 4 ∨ j = 5 := by omega
  all_goals decide

/-- V-ENG-1: the words 5, 7, 9, 5, 7 are accepted for n = 4. -/
theorem witness_GeneratorSelectionAccepts :
    let s : State := { start with rngQ := [5, 7, 9, 5, 7] }
    s.fault = false ∧ (4 : Nat) ∉ [1, 3, 8, 15] ∧ landauOf 4 ≤ s.cfg.ptDepth ∧ s.taken = [] ∧
    s.rngQ = [5, 7, 9] ++ [5, 7] ++ [] ∧ IsOrder (shuffle 4 [5, 7, 9]) (landauOf 4) ∧
    IsOrder (shuffleOdd 4 [5, 7]) (landauOf 4) ∧
    (¬∃ i, i < 4 ∧ (shuffle 4 [5, 7, 9]).getD i 0 = i ∧ (shuffleOdd 4 [5, 7]).getD i 0 = i) ∧
    faultsWithB (.engGena 0) s .badN = true ∧ faultsWithB (.engGena 65) s .badN = true ∧
    [1, 3, 8, 15].all (fun n => faultsWithB (.engGena n) s .noOdd) = true ∧
    faultsWithB (.engGena 34) s .capacity = true :=
  ⟨rfl, by decide, by decide, rfl, by decide, isOrder_cycle4, isOrder_cycle4, by decide, by decide, by decide, by decide,
    by decide⟩

/-- For n = 2 the word 0 gives the identity, of order 1; for n = 4 the words 5, 7, 9 pass and 0, 0 give (0,1,3,2), of
order 2; for n = 6 the words 0, 1, 0, 1, 1 and 0, 1, 0, 1 both give (0,2,1,4,5,3), of order 6, with a common fixed
point. -/
theorem witness_GeneratorSelectionRetries :
    start.fault = false ∧ (2 : Nat) ∉ [1, 3, 8, 15] ∧ landauOf 2 ≤ start.cfg.ptDepth ∧ start.taken = [] ∧
    ¬IsOrder (shuffle 2 [0]) (landauOf 2) ∧
    IsOrder (shuffle 4 [5, 7, 9]) (landauOf 4) ∧ ¬IsOrder (shuffleOdd 4 [0, 0]) (landauOf 4) ∧
    IsOrder (shuffle 6 [0, 1, 0, 1, 1]) (landauOf 6) ∧ IsOrder (shuffleOdd 6 [0, 1, 0, 1]) (landauOf 6) ∧
    ∃ i, i < 6 ∧ (shuffle 6 [0, 1, 0, 1, 1]).getD i 0 = i ∧ (shuffleOdd 6 [0, 1, 0, 1]).getD i 0 = i := by
  refine ⟨rfl, by decide, by decide, rfl, ?_, isOrder_cycle4, ?_, isOrder_cycle6, isOrder_cycle6, 0, by decide⟩
  · exact fun h => h.2.2 1 (by decide) (by decide) (by decide)
  · exact fun h => h.2.2 2 (by decide) (by decide) (by decide)

/-- V-ENG-7: n = 1 with both ranks 0 meets the requirement; n = 2 with rank 1, the identity, does not. -/
theorem witness_GeneratorsFromRanks :
    start.fault = false ∧ fromRank 1 (start.getBr 1) = [0] ∧ IsOrder [0] (landauOf 1) ∧ landauOf 1 ≤ start.cfg.ptDepth ∧
    ¬IsOrder (fromRank 2 ((withBr 0 1).getBr 1)) (landauOf 2) ∧
    IsOrder (fromRank 2 (start.getBr 0)) (landauOf 2) ∧
    ({ start with cfg := { cfgT with ptDepth := 1 } } : State).cfg.ptDepth < landauOf 2 ∧
    faultsWithB (.engGenb 0 0 0) start .badN = true := by
  refine ⟨rfl, by decide, ⟨by decide, by decide, fun j h1 h2 => ?_⟩, by decide, ?_, isOrder_swap, by decide, by decide⟩
  · exact absurd (show j < 1 from h2) (by omega)
  · exact fun h => h.2.2 1 (by decide) (by decide) (by decide)

theorem witness_Seeding :
    start.fault = false ∧ start.genok = false ∧
    let s : State := { eng2 with rngQ := [1, 9] }
    s.fault = false ∧ s.genok = true ∧ s.taken = [] ∧ s.rngQ = [1] ++ [9] ∧ [1].length = s.nEng - 1 := by decide

theorem witness_EngineStepAndRand : eng2.Inv ∧ eng2.fault = false ∧ eng2.seeded = true ∧
    start.Inv ∧ start.fault = false ∧ start.seeded = false := ⟨eng2_inv, rfl, rfl, start_inv, rfl, rfl⟩

theorem witness_EngineReads : eng2.Inv ∧ eng2.fault = false ∧ eng2.seeded = true ∧
    start.Inv ∧ start.seeded = false ∧ faultsWithB (.engGetd 32) start .indexRange = true :=
  ⟨eng2_inv, rfl, rfl, start_inv, rfl, by decide⟩

/-- One engine seeded by rank 0 with used-up delay line, the other by the word 1: both get P = (1,0). -/
theorem witness_SeedDeterminesOutputs :
    let s1 : State := { eng2 with t := 7, b := 1, p := none, draws := 40 }
    let s2 : State := { eng2 with rngQ := [1], errinfo := 3 }
    ∃ t1 t2 v1 v2, completes (.engSeedr 0) s1 = some (t1, v1) ∧ completes .engSeedu s2 = some (t2, v2) ∧
      s1.pt = s2.pt ∧ t1.p = t2.p ∧ s1.cfg.key = s2.cfg.key ∧ s1.cfg.dInit = s2.cfg.dInit ∧
      (outputs 2 t1).isSome = true :=
  ⟨_, _, _, _, rfl, rfl, rfl, by decide, rfl, rfl, by decide⟩

/-! Frames. -/

theorem witness_QueriesChangeNothing :
    isQuery (.bigCmp 0 1) = true ∧ (∃ t, exec (.bigCmp 0 1) start = .next t ∧ t.rsp = some ⟨0, 0⟩) ∧
    isQuery (.landau 65) = true ∧ ∃ t, exec (.landau 65) start = .next t ∧ t.fault = true :=
  ⟨rfl, ⟨_, rfl, by decide⟩, rfl, _, rfl, by decide⟩

/-- With no words kept, and with the word of a waiting shuffle kept. -/
theorem witness_OnlyFourCommandsDraw :
    start.taken = [] ∧ CanWait waitingShuffle (.permShuf 0 4) ∧
    (∃ t, exec (.permShuf 0 4) { waitingShuffle with pending := none, rngQ := [7, 9, 1] } = .next t ∧ t.rngQ = [1] ∧
      t.draws = 3) ∧
    (∃ t, exec (.permShuf 0 2) { start with rngQ := [1, 2] } = .next t ∧ t.rngQ = [2]) ∧ Instr.permShuf 0 2 ≠ .ctlSreset ∧
    ∃ t, exec (.bigAdd 0 1 2) { start with rngQ := [1, 2] } = .next t ∧ t.rngQ = [1, 2] :=
  ⟨rfl, ⟨by decide, by decide, by decide⟩, ⟨_, rfl, by decide, by decide⟩, ⟨_, rfl, by decide⟩, by decide, _, rfl,
    by decide⟩

theorem witness_OnlyNamedCommandsWrite :
    (start.fault = false ∧ ∃ t, exec (.bigDiv 0 1 2) start = .next t ∧ t.fault = true ∧ t.errinfo = 0x170402) ∧
    (∃ t, exec (.bigLdi 3 9) start = .next t ∧ t.getBr 3 ≠ start.getBr 3) ∧
    (∃ t, exec .engRand eng2 = .next t ∧ t.d ≠ eng2.d ∧ t.t ≠ eng2.t ∧ t.b ≠ eng2.b) ∧
    ∃ t, exec .ctlClrerr faulted = .next t ∧ faulted.fault = true ∧ t.fault = false ∧ t.errinfo ≠ faulted.errinfo :=
  ⟨⟨rfl, _, rfl, by decide, by decide⟩, ⟨_, rfl, by decide⟩, ⟨_, rfl, by decide, by decide, by decide⟩, _, rfl, rfl,
    by decide, by decide⟩
end

section
/-! Permutations: every function of 41_perm.md that makes an image array makes a permutation (10_state.md R36). The
common form is "a rearrangement of 0..n-1". -/

namespace Sys2Proof.Machine

/-- A rearrangement of 0..n-1 with 1 ≤ n ≤ 64 is a permutation of size n. -/
theorem wfPerm_of_perm_range {p : Perm} {n : Nat} (h : p.Perm (List.range n)) (hn : 1 ≤ n ∧ n ≤ 64) : WfPerm p := by
  have hlen : p.length = n := by simpa using h.length_eq
  refine ⟨hlen.symm ▸ hn, fun x hx => ?_, h.nodup_iff.mpr List.nodup_range⟩
  simpa [hlen] using h.mem_iff.mp hx

theorem wfPerm_idPerm {n : Nat} (hn : 1 ≤ n ∧ n ≤ 64) : WfPerm (idPerm n) :=
  wfPerm_of_perm_range (List.Perm.refl _) hn

@[simp] theorem idPerm_length (n : Nat) : (idPerm n).length = n := List.length_range

/-! Ranks (41_perm.md R203, R204). -/

/-- Below i! the loop of fromrank rearranges the elements left. -/
theorem unrankLoop_perm (i r : Nat) (d : List Nat) (acc : Perm) (hd : d.length = i) (hr : r < i.factorial) :
    (unrankLoop i r d acc).Perm (d ++ acc) := by
  induction i generalizing r d acc with
  | zero => simp [unrankLoop, List.length_eq_zero_iff.mp hd]
  | succ i ih =>
    have hc : r / i.factorial < d.length := by
      rw [hd, Nat.div_lt_iff_lt_mul i.factorial_pos]
      simpa [Nat.factorial_succ] using hr
    have hrest := ih (r % i.factorial) (d.eraseIdx (r / i.factorial)) (d.getD (r / i.factorial) 0 :: acc)
      (by simp [List.length_eraseIdx_of_lt hc, hd]) (Nat.mod_lt _ i.factorial_pos)
    have hpick : (d.getD (r / i.factorial) 0 :: d.eraseIdx (r / i.factorial)).Perm d := by
      simpa [List.getD_eq_getElem?_getD, hc] using List.getElem_cons_eraseIdx_perm hc
    exact hrest.trans (List.perm_middle.trans (hpick.append_right acc))

theorem fromRank_perm (n r : Nat) : (fromRank n r).Perm (List.range n) := by
  simpa [fromRank] using unrankLoop_perm n _ (List.range n) [] (by simp) (Nat.mod_lt r n.factorial_pos)

theorem fromRank_length (n r : Nat) : (fromRank n r).length = n := by
  simpa using (fromRank_perm n r).length_eq

/-- A sum of factorials with digits c_i ≤ i stays below n! (41_perm.md R204). -/
theorem sum_factorial_digits_lt (c : Nat → Nat) (hc : ∀ i, c i ≤ i) (n : Nat) :
    ((List.range n).map fun i => c i * i.factorial).sum < n.factorial := by
  induction n with
  | zero => simp
  | succ n ih =>
    have hterm : c n * n.factorial ≤ n * n.factorial := Nat.mul_le_mul_right _ (hc n)
    rw [List.range_succ, List.map_append, List.sum_append, Nat.factorial_succ]
    simp only [List.map_cons, List.map_nil, List.sum_cons, List.sum_nil]
    linarith

theorem rank_lt_factorial (p : Perm) : rank p < p.length.factorial :=
  sum_factorial_digits_lt (rankDigit p)
    (fun i => List.countP_le_length.trans ((List.length_take_le i p))) p.length

/-! Sampling (41_perm.md R206, R207). -/

theorem swapAt_perm {m : Perm} {i j : Nat} (hi : i < m.length) (hj : j < m.length) : (swapAt m i j).Perm m := by
  simpa [swapAt, List.getD_eq_getElem?_getD, hi, hj] using List.set_set_perm hi hj

/-- The sampling loop stays a rearrangement while it has no more words than positions. -/
theorem shuffleLoop_perm (n i : Nat) (ws : List Word) (m : Perm) (cnt : Nat) (hm : m.length = n)
    (hw : i + ws.length ≤ n) : (shuffleLoop n i ws m cnt).1.Perm m := by
  induction ws generalizing i m cnt with
  | nil => exact List.Perm.refl m
  | cons w ws ih =>
    have hi : i < n := by simp at hw; omega
    have hj : i + w.toNat % (n - i) < n := by
      have := Nat.mod_lt w.toNat (Nat.sub_pos_of_lt hi)
      omega
    have hswap : (swapAt m i (i + w.toNat % (n - i))).Perm m := swapAt_perm (by omega) (by omega)
    exact (ih (i + 1) _ _ (by simpa using hm) (by simp at hw; omega)).trans hswap

theorem shuffle_perm (n : Nat) (ws : List Word) (hw : ws.length ≤ n) : (shuffle n ws).Perm (List.range n) :=
  shuffleLoop_perm n 0 ws (idPerm n) 0 (by simp) (by omega)

theorem shuffleOdd_perm (n : Nat) (ws : List Word) (hn : 2 ≤ n) (hw : ws.length ≤ n) :
    (shuffleOdd n ws).Perm (List.range n) := by
  have hloop := shuffleLoop_perm n 0 ws (idPerm n) 0 (by simp) (by omega)
  have hlen : (shuffleLoop n 0 ws (idPerm n) 0).1.length = n := by simpa using hloop.length_eq
  unfold shuffleOdd
  dsimp only
  split
  · exact (swapAt_perm (by omega) (by omega)).trans hloop
  · exact hloop

/-! Composition and staged images (41_perm.md R205, R214). -/

@[simp] theorem compose_length (p q : Perm) : (compose p q).length = p.length := by simp [compose]

theorem wfPerm_compose {p q : Perm} (hp : WfPerm p) (hq : WfPerm q) (h : p.length = q.length) :
    WfPerm (compose p q) := by
  obtain ⟨hsize, hbound, hnodup⟩ := hp
  obtain ⟨-, hbound', hnodup'⟩ := hq
  have hget : ∀ x ∈ p, ∃ hx : x < q.length, q.getD x 0 = q[x] := fun x hx =>
    ⟨h ▸ hbound x hx, by simp [List.getD_eq_getElem?_getD, h ▸ hbound x hx]⟩
  refine ⟨by simpa using hsize, ?_, ?_⟩
  · intro y hy
    obtain ⟨x, hx, rfl⟩ := List.mem_map.mp hy
    obtain ⟨hlt, heq⟩ := hget x hx
    rw [compose_length, heq, h]
    exact hbound' _ (List.getElem_mem hlt)
  · refine hnodup.map_on fun x hx y hy hxy => ?_
    obtain ⟨hxlt, hxeq⟩ := hget x hx
    obtain ⟨hylt, hyeq⟩ := hget y hy
    exact (hnodup'.getElem_inj_iff).mp (hxeq ▸ hyeq ▸ hxy)

theorem stagedImage_length (buf : Vector Byte 64) {n : Nat} (hn : n ≤ 64) : (stagedImage buf n).length = n := by
  simpa [stagedImage] using hn

theorem wfPerm_of_isBijection {a : List Nat} (h : isBijection a = true) (hn : 1 ≤ a.length ∧ a.length ≤ 64) :
    WfPerm a := by
  simp only [isBijection, Bool.and_eq_true, List.all_eq_true, decide_eq_true_eq] at h
  exact ⟨hn, h⟩

end Sys2Proof.Machine
end

section
/-! Powers, orders and power tables (42_powertable.md R250 to R252): the loops of the model compute p^i and ord(p). -/

namespace Sys2Proof.Machine

theorem compose_idPerm_left {p : Perm} : compose (idPerm p.length) p = p := by
  apply List.ext_getElem (by simp)
  intro i h1 h2
  simp [compose, idPerm, List.getD_eq_getElem?_getD, h2]

@[simp] theorem permPow_length (p : Perm) (i : Nat) : (permPow p i).length = p.length := by
  induction i with
  | zero => simp [permPow]
  | succ i ih => simpa [permPow] using ih

theorem permPow_one (p : Perm) : permPow p 1 = p := compose_idPerm_left

theorem wfPerm_permPow {p : Perm} (hp : WfPerm p) (i : Nat) : WfPerm (permPow p i) := by
  induction i with
  | zero => exact wfPerm_idPerm hp.1
  | succ i ih => exact wfPerm_compose ih hp (permPow_length p i)

theorem isId_permPow (p : Perm) (i : Nat) : isId (permPow p i) = true ↔ permPow p i = idPerm p.length := by
  simp [isId]

/-- The order loop started at p^k answers the first m ≥ k with p^m = id, within its fuel (42_powertable.md R250). -/
theorem orderLoop_eq_some {p : Perm} {fuel k m : Nat} (h : orderLoop p fuel (permPow p k) k = some m) :
    k ≤ m ∧ m < k + fuel ∧ permPow p m = idPerm p.length ∧ ∀ j, k ≤ j → j < m → permPow p j ≠ idPerm p.length := by
  induction fuel generalizing k with
  | zero => cases h
  | succ fuel ih =>
    unfold orderLoop at h
    split at h
    · obtain rfl : k = m := by simpa using h
      exact ⟨le_rfl, by omega, (isId_permPow p k).mp ‹_›, fun j h1 h2 => by omega⟩
    · have hk : permPow p k ≠ idPerm p.length := fun e => ‹¬isId (permPow p k) = true› ((isId_permPow p k).mpr e)
      obtain ⟨hle, hlt, hid, hmin⟩ := ih (k := k + 1) h
      refine ⟨by omega, by omega, hid, fun j h1 h2 => ?_⟩
      obtain rfl | hj := Nat.eq_or_lt_of_le h1
      · exact hk
      · exact hmin j hj h2

/-- An order found is the order, and it is within the bound it was searched to (42_powertable.md R252). -/
theorem isOrder_of_orderUpTo {p : Perm} {bound k : Nat} (h : orderUpTo bound p = some k) : IsOrder p k ∧ k ≤ bound := by
  have hloop : orderLoop p bound (permPow p 1) 1 = some k := by rwa [permPow_one]
  obtain ⟨hle, hlt, hid, hmin⟩ := orderLoop_eq_some hloop
  exact ⟨⟨hle, hid, hmin⟩, by omega⟩

theorem isOrder_of_hasLandauOrder {n : Nat} {p : Perm} (h : hasLandauOrder n p = true) : IsOrder p (landauOf n) :=
  (isOrder_of_orderUpTo (by simpa [hasLandauOrder] using h)).1

theorem powersFrom_permPow (p : Perm) (k i : Nat) :
    powersFrom p k (permPow p i) = (List.range k).map fun j => permPow p (i + j) := by
  induction k generalizing i with
  | zero => rfl
  | succ k ih =>
    have hnext : compose (permPow p i) p = permPow p (i + 1) := rfl
    rw [powersFrom, hnext, ih, List.range_succ_eq_map, List.map_cons, List.map_map]
    simp only [Function.comp_def, Nat.succ_eq_add_one, Nat.add_assoc, Nat.add_comm 1, Nat.add_zero]

/-- ptbuild with the order of p makes the table of p (10_state.md R41). -/
theorem tableOf_ptBuild {p : Perm} {k : Nat} (hp : WfPerm p) (hk : IsOrder p k) : TableOf (ptBuild p k) p :=
  ⟨hp, rfl, hk, by simpa [ptBuild, permPow] using powersFrom_permPow p k 0⟩

/-- Every entry of a valid unit is a permutation of the unit's size (10_state.md R41). -/
theorem wfPerm_of_mem_validTable {g : PowerTable} (hg : ValidTable g) {e : Nat} {x : Perm} (hx : g.tab[e]? = some x) :
    WfPerm x ∧ x.length = g.n := by
  obtain ⟨p, hp, hn, -, htab⟩ := hg
  rw [htab] at hx
  obtain ⟨i, -, rfl⟩ := List.mem_map.mp (List.mem_of_getElem? hx)
  exact ⟨wfPerm_permPow hp i, by simp [hn]⟩

end Sys2Proof.Machine
end

section
/-! Variant-A selection (43_engine.md R284): what an accepted pair is, and which words an attempt that starves has. -/

namespace Sys2Proof.Machine

/-- The words of the first attempt: those of the first generator, and those of the second if the first has order L(n)
(43_engine.md R284). -/
def attemptWords (n : Nat) (ws : List Word) : Nat :=
  if hasLandauOrder n (shuffle n (ws.take (shuffleDraws n))) then shuffleDraws n + shuffleOddDraws n
  else shuffleDraws n

theorem shuffleDraws_le_attemptWords (n : Nat) (ws : List Word) : shuffleDraws n ≤ attemptWords n ws := by
  unfold attemptWords
  split <;> omega

theorem length_nil_lt_attemptWords {n : Nat} (hn : 2 ≤ n) : ([] : List Word).length < attemptWords n [] :=
  lt_of_lt_of_le (by simp [shuffleDraws]; omega) (shuffleDraws_le_attemptWords n [])

/-- The generators of an accepted pair are rearrangements of 0..n-1 of order L(n). -/
def PairAccepted (n : Nat) (g0 g1 : Perm) : Prop :=
  g0.Perm (List.range n) ∧ g1.Perm (List.range n) ∧ IsOrder g0 (landauOf n) ∧ IsOrder g1 (landauOf n)

/-- One round of the attempt loop: the words run out, or the attempt fails and the loop goes on behind its words, or
its pair is accepted (43_engine.md R284). -/
theorem selectLoop_succ {n : Nat} (hn : 2 ≤ n) (fuel : Nat) (ws : List Word) :
    (ws.length < attemptWords n ws ∧ selectLoop n (fuel + 1) ws = .starved ws) ∨
    (attemptWords n ws ≤ ws.length ∧
      selectLoop n (fuel + 1) ws = selectLoop n fuel (ws.drop (attemptWords n ws))) ∨
    (attemptWords n ws ≤ ws.length ∧ ∃ g0 g1, PairAccepted n g0 g1 ∧
      selectLoop n (fuel + 1) ws = .accepted g0 g1 (ws.drop (attemptWords n ws))) := by
  rw [selectLoop]
  by_cases hshort : ws.length < shuffleDraws n
  · exact .inl ⟨hshort.trans_le (shuffleDraws_le_attemptWords n ws), if_pos hshort⟩
  cases hg0 : hasLandauOrder n (shuffle n (ws.take (shuffleDraws n))) with
  | false =>
    have hwords : attemptWords n ws = shuffleDraws n := by simp [attemptWords, hg0]
    exact .inr (.inl ⟨by omega, by simp [hshort, hg0, hwords]⟩)
  | true =>
    have hwords : attemptWords n ws = shuffleDraws n + shuffleOddDraws n := by simp [attemptWords, hg0]
    rw [hwords, ← List.drop_drop]
    by_cases hshort1 : (ws.drop (shuffleDraws n)).length < shuffleOddDraws n
    · have : ws.length - shuffleDraws n < shuffleOddDraws n := by simpa using hshort1
      exact .inl ⟨by omega, by simp [hshort, hg0, this]⟩
    have hlong : ¬ws.length - shuffleDraws n < shuffleOddDraws n := by simpa using hshort1
    cases hg1 : hasLandauOrder n (shuffleOdd n ((ws.drop (shuffleDraws n)).take (shuffleOddDraws n))) with
    | false => exact .inr (.inl ⟨by omega, by simp [hshort, hg0, hlong, hg1]⟩)
    | true =>
      cases hfix : shareFixedPoint (shuffle n (ws.take (shuffleDraws n)))
          (shuffleOdd n ((ws.drop (shuffleDraws n)).take (shuffleOddDraws n))) with
      | true => exact .inr (.inl ⟨by omega, by simp [hshort, hg0, hlong, hg1, hfix]⟩)
      | false =>
        refine .inr (.inr ⟨by omega, _, _, ⟨?_, ?_, isOrder_of_hasLandauOrder hg0, isOrder_of_hasLandauOrder hg1⟩,
          by simp [hshort, hg0, hlong, hg1, hfix]⟩)
        · exact shuffle_perm n _ (by simp [shuffleDraws])
        · exact shuffleOdd_perm n _ hn (by simp [shuffleOddDraws])

theorem two_le_of_noVariantA {n : Nat} (h1 : 1 ≤ n) (h : noVariantA n = false) : 2 ≤ n := by
  simp only [noVariantA, decide_eq_false_iff_not] at h
  omega

/-- What selection comes to with fuel enough: a pair that is accepted, or an attempt short of words. -/
def SelectionWf (n : Nat) : Selection → Prop
  | .accepted g0 g1 _ => PairAccepted n g0 g1
  | .starved attempt => attempt.length < attemptWords n attempt

theorem selectLoop_wf {n fuel : Nat} {ws : List Word} (hn : 2 ≤ n) (hfuel : ws.length < fuel) :
    SelectionWf n (selectLoop n fuel ws) := by
  induction fuel generalizing ws with
  | zero => omega
  | succ fuel ih =>
    rcases selectLoop_succ hn fuel ws with ⟨hshort, heq⟩ | ⟨hle, heq⟩ | ⟨-, g0, g1, hpair, heq⟩ <;> rw [heq]
    · exact hshort
    · have hdraws := shuffleDraws_le_attemptWords n ws
      exact ih (by simp only [List.length_drop, shuffleDraws] at *; omega)
    · exact hpair

theorem selectA_wf {n : Nat} (hn : 2 ≤ n) (ws : List Word) : SelectionWf n (selectA n ws) :=
  selectLoop_wf hn (Nat.lt_succ_self _)

/-- Selection starves on exactly these words if and only if they are short for one attempt. -/
theorem selectA_starved_self {n : Nat} (hn : 2 ≤ n) (ws : List Word) :
    selectA n ws = .starved ws ↔ ws.length < attemptWords n ws := by
  constructor
  · intro h
    have hwf := selectA_wf hn ws
    rwa [h] at hwf
  · intro h
    rcases selectLoop_succ hn ws.length ws with ⟨-, heq⟩ | ⟨hle, -⟩ | ⟨hle, -⟩
    · exact heq
    all_goals omega

/-- More words do not make the first attempt shorter than words that were short for it. -/
theorem lt_attemptWords_append {n : Nat} {kept : List Word} (h : kept.length < attemptWords n kept) (ws : List Word) :
    kept.length < attemptWords n (kept ++ ws) := by
  by_cases hk : shuffleDraws n ≤ kept.length
  · rwa [attemptWords, List.take_append_of_le_length hk]
  · exact (Nat.lt_of_not_le hk).trans_le (shuffleDraws_le_attemptWords n _)

/-- The words kept by a starved attempt are all drawn once a pair is accepted: what is left of the supply is an end of
the words that came later. -/
theorem selectA_append_rest {n : Nat} {kept ws rest : List Word} {g0 g1 : Perm} (hn : 2 ≤ n)
    (hk : kept.length < attemptWords n kept) (h : selectA n (kept ++ ws) = .accepted g0 g1 rest) : rest <:+ ws := by
  have hlt := lt_attemptWords_append hk ws
  have hdrop : (kept ++ ws).drop (attemptWords n (kept ++ ws)) <:+ ws := by
    rw [List.drop_append, List.drop_of_length_le hlt.le, List.nil_append]
    exact List.drop_suffix _ _
  unfold selectA at h
  rcases selectLoop_succ hn (kept ++ ws).length (kept ++ ws) with ⟨-, heq⟩ | ⟨-, heq⟩ | ⟨-, g0', g1', -, heq⟩ <;>
    rw [heq] at h
  · cases h
  · have hsound := selectLoop_sound n (kept ++ ws).length ((kept ++ ws).drop (attemptWords n (kept ++ ws)))
    rw [h] at hsound
    obtain ⟨pre, hpre⟩ := hsound.1
    exact List.IsSuffix.trans ⟨pre, hpre.symm⟩ hdrop
  · injection h with _ _ hrest
    exact hrest ▸ hdrop

end Sys2Proof.Machine
end

section
/-! Numbers below CAP = 2^(32·L) (10_state.md R33): every value a BigUInt command or PERM_RANK writes is one. -/

namespace Sys2Proof.Machine

theorem word_lt_cap (w : Word) {L : Nat} (hL : 10 ≤ L) : w.toNat < 2 ^ (32 * L) :=
  w.isLt.trans_le (Nat.pow_le_pow_right (by decide) (by omega))

/-- The number with limb j replaced keeps its higher and its lower limbs. -/
theorem setLimb_eq (v j new : Nat) :
    setLimb v j new = (v / limbWeight j / 2 ^ 32 * 2 ^ 32 + new) * limbWeight j + v % limbWeight j := by
  have hlow := Nat.div_add_mod v (limbWeight j)
  have hmid := Nat.div_add_mod (v / limbWeight j) (2 ^ 32)
  unfold setLimb limb
  generalize v / limbWeight j / 2 ^ 32 = a at *
  generalize v / limbWeight j % 2 ^ 32 = b at *
  generalize v % limbWeight j = c at *
  have hv : v = a * 2 ^ 32 * limbWeight j + b * limbWeight j + c := by
    rw [← hlow, ← hmid]; ring
  rw [hv, Nat.add_mul]
  omega

theorem setLimb_lt {v j new L : Nat} (hv : v < 2 ^ (32 * L)) (hj : j < L) (hnew : new < 2 ^ 32) :
    setLimb v j new < 2 ^ (32 * L) := by
  have hw : 0 < limbWeight j := by unfold limbWeight; positivity
  have hcap : 2 ^ (32 * L) = 2 ^ (32 * (L - j - 1)) * 2 ^ 32 * limbWeight j := by
    rw [limbWeight_eq, ← pow_add, ← pow_add]; congr 1; omega
  have hhigh : v / limbWeight j / 2 ^ 32 < 2 ^ (32 * (L - j - 1)) := by
    rw [Nat.div_lt_iff_lt_mul (by positivity), Nat.div_lt_iff_lt_mul hw, ← hcap]
    exact hv
  have hlimb : v / limbWeight j / 2 ^ 32 * 2 ^ 32 + new + 1 ≤ 2 ^ (32 * (L - j - 1)) * 2 ^ 32 := by omega
  calc setLimb v j new
      < (v / limbWeight j / 2 ^ 32 * 2 ^ 32 + new + 1) * limbWeight j := by
        rw [setLimb_eq, Nat.add_mul _ 1, Nat.one_mul]
        exact Nat.add_lt_add_left (Nat.mod_lt v hw) _
    _ ≤ 2 ^ (32 * L) := (Nat.mul_le_mul_right _ hlimb).trans_eq hcap.symm

theorem lt_two_pow_bitcount (a : Nat) : a < 2 ^ bitcount a := by
  unfold bitcount
  split
  · simp [*]
  · exact Nat.lt_log2_self

theorem shlValue_lt {L a d : Nat} (h : shlOverflows L a d = false) : shlValue a d < 2 ^ (32 * L) := by
  unfold shlValue
  split
  · positivity
  · have hbits : bitcount a + d ≤ 32 * L := by simpa [shlOverflows, ‹¬a = 0›] using h
    calc a * 2 ^ d < 2 ^ bitcount a * 2 ^ d := Nat.mul_lt_mul_of_pos_right (lt_two_pow_bitcount a) (by positivity)
      _ = 2 ^ (bitcount a + d) := (pow_add ..).symm
      _ ≤ 2 ^ (32 * L) := Nat.pow_le_pow_right (by decide) hbits

theorem shrValue_le (a d : Nat) : shrValue a d ≤ a := by
  unfold shrValue
  split
  · exact Nat.zero_le a
  · exact Nat.div_le_self a _

/-- 64! is below the smallest CAP (40_biguint.md R151; 00_scope.md R8). -/
theorem rank_lt_cap {p : Perm} (hp : WfPerm p) {L : Nat} (hL : 10 ≤ L) : rank p < 2 ^ (32 * L) :=
  calc rank p < p.length.factorial := rank_lt_factorial p
    _ ≤ (64).factorial := Nat.factorial_le hp.1.2
    _ ≤ (2 ^ 32) ^ 10 := by norm_num [Nat.factorial]
    _ ≤ (2 ^ 32) ^ L := Nat.pow_le_pow_right (by positivity) hL
    _ = 2 ^ (32 * L) := (pow_mul ..).symm

end Sys2Proof.Machine
end

section
/-! The invariant in two parts: what the block's own state holds, and the wait of a command in the block. -/

namespace Sys2Proof.Machine

/-- The clauses of the invariant that speak of neither the channels nor a waiting command. -/
structure State.DataInv (s : State) : Prop where
  cfgWf : s.cfg.Wf
  brBound : ∀ r, s.getBr r < 2 ^ (32 * s.cfg.bigLimbs)
  prWf : ∀ r p, s.getPr r = some p → WfPerm p
  ptValid : ∀ u g, s.getPt u = some g → ValidTable g ∧ g.k ≤ s.cfg.ptDepth
  pWf : ∀ p, s.p = some p → WfPerm p
  genokTables : s.genok = true → (1 ≤ s.nEng ∧ s.nEng ≤ 64) ∧
    ∀ u, ∃ g, s.getPt u = some g ∧ g.n = s.nEng ∧ g.k = landauOf s.nEng
  noGenerators : s.genok = false → s.nEng = 0 ∧ s.seeded = false
  seededP : s.seeded = true → s.genok = true ∧ ∃ p, s.p = some p ∧ p.length = s.nEng
  noFaultInfo : s.fault = false → s.errinfo = 0
  faultCode : s.fault = true → s.errinfo.extractLsb' 0 8 = 1 ∨ s.errinfo.extractLsb' 0 8 = 2 ∨
    s.errinfo.extractLsb' 0 8 = 3

/-- The clauses of the invariant on a command that waits in the block. -/
structure State.WaitInv (s : State) : Prop where
  noneTaken : s.pending = none → s.taken = []
  waiting : ∀ i, s.pending = some i → s.rsp = none ∧ s.fault = false ∧ CanWait s i

theorem State.DataInv.ten_le_bigLimbs {s : State} (h : s.DataInv) : 10 ≤ s.cfg.bigLimbs := by
  obtain ⟨⟨hlow, -⟩, -⟩ := h.cfgWf
  exact hlow

theorem State.inv_iff {s : State} : s.Inv ↔ s.DataInv ∧ s.WaitInv :=
  ⟨fun h => ⟨{ h with }, { h with }⟩, fun ⟨hdata, hwait⟩ => { hdata, hwait with }⟩

end Sys2Proof.Machine
end

section
/-! What executing a command can do, said once: `exec_effects`. Every statement about all commands is then a case split
over `Effect`, `Draws` and `Writes`, not over the 53 commands. -/

namespace Sys2Proof.Machine

/-- The state a command goes on from after its draws: the state itself for a command that draws nothing, or one whose
words on offer are an end of those before. -/
inductive Draws (i : Instr) (s : State) : State → Prop
  | nothing (hi : isDrawing i = false) : Draws i s s
  | words (rest : List Word) (hi : isDrawing i = true) (hrest : s.taken = [] ∨ CanWait s i → rest <:+ s.rngQ) :
      Draws i s (s.drew rest)

/-- What a command that completes may write, which commands may write it, and, from a state with the invariant, what
holds of the value written. -/
inductive Writes (i : Instr) (s : State) : State → Prop
  | nothing : Writes i s s
  | clearFault (hi : i = .ctlClrerr) : Writes i s s.clearFault
  | br (v : Nat) (hi : i.opcode ∈ brWriters) (hv : s.DataInv → v < 2 ^ (32 * s.cfg.bigLimbs)) :
      Writes i s (s.setBr i.fields.rd v)
  | pr (p : Perm) (hi : i.opcode ∈ prWriters) (hp : s.DataInv → WfPerm p) : Writes i s (s.setPr i.fields.rd p)
  | img (buf : Vector Byte 64) (hi : i.opcode = .permLdimg) : Writes i s (s.setImg buf)
  | table (g : PowerTable) (hi : i.opcode = .ptInit)
      (hg : s.DataInv → ValidTable g ∧ g.k ≤ s.cfg.ptDepth) : Writes i s (s.setPt i.fields.u g).dropGenerators
  | generators (n : Nat) (g0 g1 : Perm) (hi : i.opcode ∈ [.engGena, .engGenb]) (hn : 1 ≤ n ∧ n ≤ 64)
      (hdepth : landauOf n ≤ s.cfg.ptDepth) (hpair : PairAccepted n g0 g1) : Writes i s (s.loadGenerators n g0 g1)
  | seed (p : Perm) (hi : i.opcode ∈ [.engSeedr, .engSeedu]) (hgen : s.genok = true)
      (hp : p.Perm (List.range s.nEng)) : Writes i s (s.reseed p)
  | step (s' : State) (hi : i.opcode = .engStep) (hs : s.engineStep = some s') (hseed : s.seeded = true) : Writes i s s'
  | rand (s' : State) (w : Word) (hi : i.opcode = .engRand) (hs : s.engineStep = some s') (hseed : s.seeded = true) :
      Writes i s (s'.pushDelay w)

/-- Everything a command can come to: a fault, FaultPending, completion, a wait for words, or CTL_SRESET's reset. -/
inductive Effect (i : Instr) (s : State) : State → Prop
  | faulted (c : Cause) (hi : ¬CanWait s i) : Effect i s (s.faultEntry i.opcode.code c)
  | faultPending (hf : s.fault = true) : Effect i s (s.respond 4 s.errinfo)
  | completed (s' t : State) (v : Word) (hd : Draws i s s') (hw : Writes i s' t) : Effect i s (t.respond 0 v)
  | waits (kept : List Word) (hi : isDrawing i = true) (hf : s.fault = false) (hkept : CanWait (s.await i kept) i) :
      Effect i s (s.await i kept)
  | reset (hi : i = .ctlSreset) : Effect i s (s.blockReset.respond 0 0)

theorem isDrawing_of_canWait {s : State} {i : Instr} (h : CanWait s i) : isDrawing i = true := by
  unfold CanWait at h
  split at h
  case h_5 => exact h.elim
  all_goals rfl

theorem Draws.dataInv {i : Instr} {s s' : State} (h : Draws i s s') (hs : s.DataInv) : s'.DataInv := by
  cases h with
  | nothing => exact hs
  | words => exact { hs with }

/-! The operand forms and the shared operations, each with the effects of what follows it. -/

/-- Whatever next state is answered is an effect of the command. -/
def Effects (i : Instr) (s : State) (o : Out) : Prop := ∀ t, o = .next t → Effect i s t

namespace Effects

variable {i : Instr} {s : State}

theorem of_next {t : State} (h : Effect i s t) : Effects i s (.next t) := fun _ ht => next_inj ht ▸ h

theorem raise {c : Cause} (hi : ¬CanWait s i := by exact id) : Effects i s (raise i.opcode c s) :=
  of_next (.faulted c hi)

/-- A command that only reads. -/
theorem reads {v : Word} (hi : isDrawing i = false := by rfl) : Effects i s (answer v s) :=
  of_next (.completed s s v (.nothing hi) .nothing)

/-- A command that draws nothing and writes. -/
theorem writes {t : State} (hw : Writes i s t) (hi : isDrawing i = false := by rfl) : Effects i s (done t) :=
  of_next (.completed s t 0 (.nothing hi) hw)

theorem writesBr {r : BReg} {v : Nat} (hv : s.DataInv → v < 2 ^ (32 * s.cfg.bigLimbs)) (hr : r = i.fields.rd := by rfl)
    (hop : brWriters.elem i.opcode = true := by rfl) (hi : isDrawing i = false := by rfl) :
    Effects i s (done (s.setBr r v)) :=
  writes (hr ▸ .br v (List.elem_iff.mp hop) hv) hi

theorem writesPr {r : PReg} {p : Perm} (hp : s.DataInv → WfPerm p) (hr : r = i.fields.rd := by rfl)
    (hop : prWriters.elem i.opcode = true := by rfl) (hi : isDrawing i = false := by rfl) :
    Effects i s (done (s.setPr r p)) :=
  writes (hr ▸ .pr p (List.elem_iff.mp hop) hp) hi

theorem unlessFault {k : Out} (hk : s.fault = false → Effects i s k) : Effects i s (unlessFault s k) := by
  intro t h
  rcases unlessFault_next h with ⟨hf, rfl⟩ | ⟨hf, h⟩
  · exact .faultPending hf
  · exact hk hf t h

theorem withSize {n : Nat} {k : Out} (hk : 1 ≤ n ∧ n ≤ 64 → Effects i s k)
    (hi : CanWait s i → 1 ≤ n ∧ n ≤ 64 := by exact False.elim) : Effects i s (withSize i.opcode n s k) := by
  intro t h
  rcases withSize_next h with ⟨hn, rfl⟩ | ⟨hn, h⟩
  · exact .faulted _ fun hc => hn (hi hc)
  · exact hk hn t h

theorem withIndex {idx lim : Nat} {k : Out} (hk : idx < lim → Effects i s k) (hi : ¬CanWait s i := by exact id) :
    Effects i s (withIndex i.opcode idx lim s k) := by
  intro t h
  rcases withIndex_next h with ⟨-, rfl⟩ | ⟨hlt, h⟩
  · exact .faulted _ hi
  · exact hk hlt t h

theorem withPerm {r : PReg} {k : Perm → Out} (hk : ∀ p, s.getPr r = some p → Effects i s (k p))
    (hi : ¬CanWait s i := by exact id) : Effects i s (withPerm i.opcode r s k) := by
  intro t h
  rcases withPerm_next h with ⟨-, rfl⟩ | ⟨p, hp, h⟩
  · exact .faulted _ hi
  · exact hk p hp t h

theorem withPerms {r1 r2 : PReg} {k : Perm → Perm → Out}
    (hk : ∀ p q, s.getPr r1 = some p → s.getPr r2 = some q → Effects i s (k p q))
    (hi : ¬CanWait s i := by exact id) : Effects i s (withPerms i.opcode r1 r2 s k) :=
  withPerm (fun p hp => withPerm (fun q hq => hk p q hp hq) hi) hi

theorem withTable {u : PtUnit} {k : PowerTable → Out} (hk : ∀ g, s.getPt u = some g → Effects i s (k g))
    (hi : ¬CanWait s i := by exact id) : Effects i s (withTable i.opcode u s k) := by
  intro t h
  rcases withTable_next h with ⟨-, rfl⟩ | ⟨g, hg, h⟩
  · exact .faulted _ hi
  · exact hk g hg t h

theorem withEqualSizes {n1 n2 : Nat} {k : Out} (hk : n1 = n2 → Effects i s k) (hi : ¬CanWait s i := by exact id) :
    Effects i s (withEqualSizes i.opcode n1 n2 s k) := by
  intro t h
  rcases withEqualSizes_next h with ⟨-, rfl⟩ | ⟨heq, h⟩
  · exact .faulted _ hi
  · exact hk heq t h

theorem withEntry {g : PowerTable} {e : Nat} {k : Perm → Out} (hk : ∀ x, g.tab[e]? = some x → Effects i s (k x))
    (hi : ¬CanWait s i := by exact id) : Effects i s (withEntry i.opcode g e s k) := by
  intro t h
  rcases withEntry_next h with ⟨-, rfl⟩ | ⟨x, -, hx, h⟩
  · exact .faulted _ hi
  · exact hk x hx t h

theorem withGenerators {k : Out} (hk : s.genok = true → Effects i s k)
    (hi : CanWait s i → s.genok = true := by exact False.elim) : Effects i s (withGenerators i.opcode s k) := by
  intro t h
  rcases withGenerators_next h with ⟨hgen, rfl⟩ | ⟨hgen, h⟩
  · exact .faulted _ fun hc => Bool.false_ne_true (hgen.symm.trans (hi hc))
  · exact hk hgen t h

theorem withSeeded {k : Out} (hk : s.seeded = true → Effects i s k) (hi : ¬CanWait s i := by exact id) :
    Effects i s (withSeeded i.opcode s k) := by
  intro t h
  rcases withSeeded_next h with ⟨-, rfl⟩ | ⟨hseed, h⟩
  · exact .faulted _ hi
  · exact hk hseed t h

theorem orBroken {α : Type} {x : Option α} {k : α → Out} (hk : ∀ a, x = some a → Effects i s (k a)) :
    Effects i s (orBroken x k) := by
  intro t h
  obtain ⟨a, ha, h⟩ := orBroken_next h
  exact hk a ha t h

/-- A BigUInt result is checked against CAP as it is written. -/
theorem writeBig {r : BReg} {v : Nat} (hr : r = i.fields.rd := by rfl) (hi : ¬CanWait s i := by exact id)
    (hop : brWriters.elem i.opcode = true := by rfl) (hd : isDrawing i = false := by rfl) :
    Effects i s (writeBig i.opcode r v s) := by
  intro t h
  rcases writeBig_next h with ⟨-, rfl⟩ | ⟨hlt, rfl⟩
  · exact .faulted _ hi
  · exact writesBr (fun _ => s.cap_eq ▸ hlt) hr hop hd _ rfl

/-- Words drawn beyond those kept are the first ones on offer. -/
theorem drop_supply_suffix {k : Nat} (h : s.taken.length ≤ k) : s.supply.drop k <:+ s.rngQ := by
  rw [State.supply, List.drop_append, List.drop_of_length_le h, List.nil_append]
  exact List.drop_suffix _ _

/-- A command with a fixed number of draws: it waits with fewer words, or goes on with that many. -/
theorem drawing {k : Nat} {go : List Word → State → Out} (hi : isDrawing i = true) (hf : s.fault = false)
    (htaken : CanWait s i → s.taken.length ≤ k) (hshort : s.supply.length < k → CanWait (s.await i s.supply) i)
    (hgo : ∀ ws rest, ws.length = k → Draws i s (s.drew rest) → Effects i s (go ws (s.drew rest))) :
    Effects i s (drawing i k s go) := by
  intro t h
  rcases drawing_next h with ⟨hlt, rfl⟩ | ⟨hle, h⟩
  · exact .waits s.supply hi hf (hshort hlt)
  · refine hgo (s.supply.take k) _ (by simpa using hle) (.words _ hi fun hwait => drop_supply_suffix ?_) t h
    rcases hwait with hnone | hc
    · simp [hnone]
    · exact htaken hc

end Effects

end Sys2Proof.Machine
end

section
/-! The effects of each command: its exec function is a chain of operand forms, and the value it writes is below CAP or
a permutation. -/

namespace Sys2Proof.Machine

theorem getBr_le_lt {s : State} (hs : s.DataInv) (r : BReg) {v : Nat} (h : v ≤ s.getBr r) :
    v < 2 ^ (32 * s.cfg.bigLimbs) := h.trans_lt (hs.brBound r)

theorem bigHexin_effects (rd : BReg) (data : Word) (s : State) :
    Effects (.bigHexin rd data) s (execBigHexin rd data s) := by
  refine .unlessFault fun _ => ?_
  split
  · exact .raise
  · exact .writeBig

theorem bigLdlimb_effects (rd : BReg) (imm : Nat) (data : Word) (s : State) :
    Effects (.bigLdlimb rd imm data) s (execBigLdlimb rd imm data s) :=
  .unlessFault fun _ => .withIndex fun hk => .writesBr fun hs => setLimb_lt (hs.brBound rd) hk (BitVec.isLt _)

theorem bigDiv_effects (rd rs1 rs2 : BReg) (s : State) :
    Effects (.bigDiv rd rs1 rs2) s (execBigDiv rd rs1 rs2 s) := by
  refine .unlessFault fun _ => ?_
  split
  · exact .raise
  · exact .writesBr fun hs => getBr_le_lt hs rs1 (Nat.div_le_self _ _)

theorem bigRem_effects (rd rs1 rs2 : BReg) (s : State) :
    Effects (.bigRem rd rs1 rs2) s (execBigRem rd rs1 rs2 s) := by
  refine .unlessFault fun _ => ?_
  split
  · exact .raise
  · exact .writesBr fun hs => getBr_le_lt hs rs1 (Nat.mod_le _ _)

theorem bigShl_effects (rd rs1 : BReg) (data : Word) (s : State) :
    Effects (.bigShl rd rs1 data) s (execBigShl rd rs1 data s) := by
  refine .unlessFault fun _ => ?_
  split
  · exact .raise
  · exact .writesBr fun _ => shlValue_lt (by simpa using ‹¬shlOverflows _ _ _ = true›)

theorem permFromimg_effects (rd : PReg) (imm : Nat) (s : State) :
    Effects (.permFromimg rd imm) s (execPermFromimg rd imm s) := by
  refine .unlessFault fun _ => .withSize fun hn => ?_
  split
  · exact .writesPr fun _ =>
      wfPerm_of_isBijection ‹_› (by rw [stagedImage_length _ hn.2]; exact hn)
  · exact .raise

theorem permSize_effects (rs1 : PReg) (s : State) : Effects (.permSize rs1) s (execPermSize rs1 s) := by
  refine .unlessFault fun _ => ?_
  split <;> exact .reads

theorem permShuf_effects (rd : PReg) (imm : Nat) (s : State) :
    Effects (.permShuf rd imm) s (execPermShuf rd imm s) := by
  refine .unlessFault fun hf => .withSize (fun hn => ?_) fun ⟨h1, h64, _⟩ => ⟨h1, h64⟩
  refine .drawing rfl hf (fun ⟨_, _, hlt⟩ => hlt.le) (fun hlt => ⟨hn.1, hn.2, hlt⟩) fun ws rest hws hd => ?_
  have hle : ws.length ≤ imm := by simp [hws, shuffleDraws]
  exact .of_next (.completed _ _ 0 hd
    (.pr _ (List.elem_iff.mp rfl) fun _ => wfPerm_of_perm_range (shuffle_perm imm ws hle) hn))

theorem permShufodd_effects (rd : PReg) (imm : Nat) (s : State) :
    Effects (.permShufodd rd imm) s (execPermShufodd rd imm s) := by
  refine .unlessFault fun hf => .withSize (fun hn => ?_) fun ⟨h2, h64, _⟩ => ⟨by omega, h64⟩
  split
  · exact .raise fun ⟨h2, _⟩ => by omega
  · have h2 : 2 ≤ imm := by omega
    refine .drawing rfl hf (fun ⟨_, _, hlt⟩ => hlt.le) (fun hlt => ⟨h2, hn.2, hlt⟩) fun ws rest hws hd => ?_
    have hle : ws.length ≤ imm := by simp [hws, shuffleOddDraws]
    exact .of_next (.completed _ _ 0 hd
      (.pr _ (List.elem_iff.mp rfl) fun _ => wfPerm_of_perm_range (shuffleOdd_perm imm ws h2 hle) hn))

theorem ptInit_effects (u : PtUnit) (rs1 : PReg) (s : State) : Effects (.ptInit u rs1) s (execPtInit u rs1 s) := by
  refine .unlessFault fun _ => .withPerm fun p hp => ?_
  split
  · exact .raise
  · obtain ⟨horder, hle⟩ := isOrder_of_orderUpTo ‹_›
    exact .writes (.table _ rfl fun hs => ⟨⟨p, tableOf_ptBuild (hs.prWf rs1 p hp) horder⟩, hle⟩)

theorem landau_effects (imm : Nat) (s : State) : Effects (.landau imm) s (execLandau imm s) := by
  refine .unlessFault fun _ => ?_
  split
  · exact .reads
  · exact .raise

theorem engGena_effects (imm : Nat) (s : State) : Effects (.engGena imm) s (execEngGena imm s) := by
  refine .unlessFault fun hf => .withSize (fun hn => ?_) fun ⟨h1, h64, _⟩ => ⟨h1, h64⟩
  split
  · exact .raise fun ⟨_, _, hvar, _⟩ => by simp_all
  split
  · exact .raise fun ⟨_, _, _, hdepth, _⟩ => by omega
  have hvar : noVariantA imm = false := by simpa using ‹¬noVariantA imm = true›
  have hdepth : landauOf imm ≤ s.cfg.ptDepth := by omega
  have h2 := two_le_of_noVariantA hn.1 hvar
  have hwf := selectA_wf h2 s.supply
  split
  · rename_i g0 g1 rest hsel
    rw [hsel] at hwf
    refine .of_next (.completed _ _ 0 (.words rest rfl ?_) (.generators imm g0 g1 (List.elem_iff.mp rfl) hn hdepth hwf))
    intro hwait
    refine selectA_append_rest h2 ?_ hsel
    rcases hwait with hnone | ⟨-, -, -, -, hkept⟩
    · exact hnone ▸ length_nil_lt_attemptWords h2
    · exact (selectA_starved_self h2 _).mp hkept
  · rename_i attempt hsel
    rw [hsel] at hwf
    exact .of_next (.waits attempt rfl hf ⟨hn.1, hn.2, hvar, hdepth, (selectA_starved_self h2 _).mpr hwf⟩)

theorem engGenb_effects (imm : Nat) (rs1 rs2 : BReg) (s : State) :
    Effects (.engGenb imm rs1 rs2) s (execEngGenb imm rs1 rs2 s) := by
  refine .unlessFault fun _ => .withSize fun hn => ?_
  dsimp only
  split
  · rename_i horders
    obtain ⟨h0, h1⟩ := Bool.and_eq_true_iff.mp horders
    split
    · exact .raise
    · exact .writes (.generators imm _ _ (List.elem_iff.mp rfl) hn (by omega) ⟨fromRank_perm _ _, fromRank_perm _ _,
        isOrder_of_hasLandauOrder h0, isOrder_of_hasLandauOrder h1⟩)
  · exact .raise

theorem engSeedu_effects (s : State) : Effects .engSeedu s (execEngSeedu s) := by
  refine .unlessFault fun hf => .withGenerators (fun hgen => ?_) fun ⟨hgen, _⟩ => hgen
  refine .drawing rfl hf (fun ⟨_, hlt⟩ => hlt.le) (fun hlt => ⟨hgen, hlt⟩) fun ws rest hws hd => ?_
  have hle : ws.length ≤ s.nEng := by simp [hws, shuffleDraws]
  exact .of_next (.completed _ _ 0 hd (.seed _ (List.elem_iff.mp rfl) hgen (shuffle_perm s.nEng ws hle)))

theorem engStep_effects (s : State) : Effects .engStep s (execEngStep s) :=
  .unlessFault fun _ => .withSeeded fun hseed => .orBroken fun s' hs => .writes (.step s' rfl hs hseed)

theorem engRand_effects (s : State) : Effects .engRand s (execEngRand s) := by
  refine .unlessFault fun _ => .withSeeded fun hseed => .orBroken fun r hr => ?_
  obtain ⟨s1, p, hstep, -, rfl⟩ := State.engineRand_eq_some.mp hr
  exact .of_next (.completed _ _ _ (.nothing rfl) (.rand s1 _ rfl hstep hseed))

theorem engGetd_effects (imm : Nat) (s : State) : Effects (.engGetd imm) s (execEngGetd imm s) := by
  refine .unlessFault fun _ => ?_
  split
  · exact .reads
  · exact .raise

/-- Every next state of every command is one of its effects. -/
theorem exec_effects (i : Instr) (s : State) : Effects i s (exec i s) := by
  cases i with
  | ctlNop => exact .reads
  | ctlRdcsr imm =>
    show Effects _ s (execCtlRdcsr imm s)
    unfold execCtlRdcsr
    split
    · exact .reads
    · exact .raise
  | ctlClrerr => exact .writes (.clearFault rfl)
  | ctlSreset => exact .of_next (.reset rfl)
  | bigLdi rd data => exact .unlessFault fun _ => .writesBr fun hs => word_lt_cap data hs.ten_le_bigLimbs
  | bigLdlimb rd imm data => exact bigLdlimb_effects rd imm data s
  | bigHexin rd data => exact bigHexin_effects rd data s
  | bigMov rd rs1 => exact .unlessFault fun _ => .writesBr fun hs => hs.brBound rs1
  | bigAdd rd rs1 rs2 => exact .unlessFault fun _ => .writeBig
  | bigSub rd rs1 rs2 =>
    exact .unlessFault fun _ => .writesBr fun hs => getBr_le_lt hs rs1 (Nat.sub_le _ _)
  | bigMul rd rs1 rs2 => exact .unlessFault fun _ => .writeBig
  | bigDiv rd rs1 rs2 => exact bigDiv_effects rd rs1 rs2 s
  | bigRem rd rs1 rs2 => exact bigRem_effects rd rs1 rs2 s
  | bigShl rd rs1 data => exact bigShl_effects rd rs1 data s
  | bigShr rd rs1 data =>
    exact .unlessFault fun _ => .writesBr fun hs => getBr_le_lt hs rs1 (shrValue_le _ _)
  | bigAnd rd rs1 rs2 =>
    exact .unlessFault fun _ => .writesBr fun hs => getBr_le_lt hs rs1 Nat.and_le_left
  | bigOr rd rs1 rs2 =>
    exact .unlessFault fun _ =>
      .writesBr fun hs => Nat.or_lt_two_pow (hs.brBound rs1) (hs.brBound rs2)
  | bigCmp rs1 rs2 => exact .unlessFault fun _ => .reads
  | bigBitcnt rs1 => exact .unlessFault fun _ => .reads
  | bigTrunc32 rs1 => exact .unlessFault fun _ => .reads
  | bigTrunc64 rs1 => exact .unlessFault fun _ => .reads
  | bigGetlimb rs1 imm => exact .unlessFault fun _ => .withIndex fun _ => .reads
  | bigNlimbs rs1 => exact .unlessFault fun _ => .reads
  | bigHexlen rs1 => exact .unlessFault fun _ => .reads
  | bigHexdig rs1 imm => exact .unlessFault fun _ => .withIndex fun _ => .reads
  | permId rd imm =>
    exact .unlessFault fun _ => .withSize fun hn => .writesPr fun _ => wfPerm_idPerm hn
  | permFromrank rd rs1 imm =>
    exact .unlessFault fun _ => .withSize fun hn =>
      .writesPr fun _ => wfPerm_of_perm_range (fromRank_perm _ _) hn
  | permRank rd rs1 =>
    exact .unlessFault fun _ => .withPerm fun p hp =>
      .writesBr fun hs => rank_lt_cap (hs.prWf rs1 p hp) hs.ten_le_bigLimbs
  | permLdimg imm data => exact .unlessFault fun _ => .withIndex fun _ => .writes (.img _ rfl)
  | permFromimg rd imm => exact permFromimg_effects rd imm s
  | permGetimg rs1 imm => exact .unlessFault fun _ => .withIndex fun _ => .withPerm fun _ _ => .reads
  | permSize rs1 => exact permSize_effects rs1 s
  | permMov rd rs1 =>
    exact .unlessFault fun _ => .withPerm fun p hp => .writesPr fun hs => hs.prWf rs1 p hp
  | permMul rd rs1 rs2 =>
    exact .unlessFault fun _ => .withPerms fun p q hp hq => .withEqualSizes fun hlen =>
      .writesPr fun hs => wfPerm_compose (hs.prWf rs1 p hp) (hs.prWf rs2 q hq) hlen
  | permIsid rs1 => exact .unlessFault fun _ => .withPerm fun _ _ => .reads
  | permEq rs1 rs2 => exact .unlessFault fun _ => .withPerms fun _ _ _ _ => .reads
  | permShuf rd imm => exact permShuf_effects rd imm s
  | permShufodd rd imm => exact permShufodd_effects rd imm s
  | permSharefix rs1 rs2 =>
    exact .unlessFault fun _ => .withPerms fun _ _ _ _ => .withEqualSizes fun _ => .reads
  | ptInit u rs1 => exact ptInit_effects u rs1 s
  | ptOrder u => exact .unlessFault fun _ => .withTable fun _ _ => .reads
  | ptFetch rd u data =>
    exact .unlessFault fun _ => .withTable fun g hg => .withEntry fun x hx =>
      .writesPr fun hs => (wfPerm_of_mem_validTable (hs.ptValid u g hg).1 hx).1
  | ptMulpow rd rs1 u data =>
    refine .unlessFault fun _ => .withPerm fun x hx => .withTable fun g hg => .withEqualSizes fun hlen =>
      .withEntry fun y hy => .writesPr fun hs => ?_
    obtain ⟨hwf, hlen'⟩ := wfPerm_of_mem_validTable (hs.ptValid u g hg).1 hy
    exact wfPerm_compose (hs.prWf rs1 x hx) hwf (hlen.trans hlen'.symm)
  | landau imm => exact landau_effects imm s
  | engGena imm => exact engGena_effects imm s
  | engGenb imm rs1 rs2 => exact engGenb_effects imm rs1 rs2 s
  | engSeedr rs1 =>
    exact .unlessFault fun _ => .withGenerators fun hgen =>
      .writes (.seed _ (List.elem_iff.mp rfl) hgen (fromRank_perm _ _))
  | engSeedu => exact engSeedu_effects s
  | engStep => exact engStep_effects s
  | engRand => exact engRand_effects s
  | engMix => exact .unlessFault fun _ => .withSeeded fun _ => .orBroken fun _ _ => .reads
  | engGetp rd =>
    exact .unlessFault fun _ => .withSeeded fun _ => .orBroken fun p hp =>
      .writesPr fun hs => hs.pWf p hp
  | engGetd imm => exact engGetd_effects imm s

theorem effect_of_exec {i : Instr} {s t : State} (h : exec i s = .next t) : Effect i s t := exec_effects i s t h

end Sys2Proof.Machine
end

section
/-! Which command writes which field (10_state.md sections 2 to 7; 60_exceptions.md R355, R356). -/

namespace Sys2Proof.Machine

/-- Every field of the block but the fault latch and the wait is changed only by the commands its rule names. -/
structure BlockFrame (i : Instr) (s t : State) : Prop where
  br : ∀ r, t.getBr r ≠ s.getBr r → i.opcode ∈ brWriters ∧ r = i.fields.rd
  pr : ∀ r, t.getPr r ≠ s.getPr r → i.opcode ∈ prWriters ∧ r = i.fields.rd
  img : t.imgbuf ≠ s.imgbuf → i.opcode = .permLdimg
  pt : ∀ u, t.getPt u ≠ s.getPt u → i.opcode ∈ ptWriters ∧ (i.opcode = .ptInit → u = i.fields.u)
  gens : t.nEng ≠ s.nEng ∨ t.genok ≠ s.genok → i.opcode ∈ ptWriters
  seeded : t.seeded ≠ s.seeded → i.opcode ∈ [.ptInit, .engGena, .engGenb, .engSeedr, .engSeedu]
  engine : t.p ≠ s.p ∨ t.b ≠ s.b → i.opcode ∈ pWriters
  delay : t.d ≠ s.d ∨ t.t ≠ s.t → i.opcode ∈ delayWriters

/-- The configuration and the inputs stay. -/
structure InputsKept (s t : State) : Prop where
  cfg : t.cfg = s.cfg
  cmdQ : t.cmdQ = s.cmdQ
  rstN : t.rstN = s.rstN
  rspReady : t.rspReady = s.rspReady

/-- The draws and the wait stay. -/
structure WaitKept (s t : State) : Prop where
  draws : t.draws = s.draws
  rngQ : t.rngQ = s.rngQ
  taken : t.taken = s.taken
  pending : t.pending = s.pending

theorem BlockFrame.refl (i : Instr) (s : State) : BlockFrame i s s := by
  constructor <;> simp

theorem InputsKept.refl (s : State) : InputsKept s s := ⟨rfl, rfl, rfl, rfl⟩

theorem WaitKept.refl (s : State) : WaitKept s s := ⟨rfl, rfl, rfl, rfl⟩

/-- step() as one update (43_engine.md R281). -/
theorem engineStep_update {s t : State} (h : s.engineStep = some t) :
    ∃ p' b', t = { s with p := some p', b := b' } := by
  obtain ⟨p, g, x, -, -, -, rfl⟩ := State.engineStep_eq_some.mp h
  exact ⟨_, _, rfl⟩

theorem Writes.blockFrame {i : Instr} {s t : State} (h : Writes i s t) : BlockFrame i s t := by
  have base := BlockFrame.refl i s
  cases h with
  | nothing => exact base
  | clearFault => exact { base with }
  | br v hi =>
    refine { base with br := fun r hr => ⟨hi, ?_⟩ }
    by_contra hne
    exact hr (State.getBr_setBr_ne s _ r v (Ne.symm hne))
  | pr p hi =>
    refine { base with pr := fun r hr => ⟨hi, ?_⟩ }
    by_contra hne
    exact hr (State.getPr_setPr_ne s _ r p (Ne.symm hne))
  | img buf hi => exact { base with img := fun _ => hi }
  | table g hi =>
    refine { base with pt := fun u hu => ⟨?_, fun _ => ?_⟩, gens := fun _ => ?_, seeded := fun _ => ?_ }
    · simp [hi, ptWriters]
    · by_contra hne
      exact hu (State.getPt_setPt_ne s _ u g (Ne.symm hne))
    · simp [hi, ptWriters]
    · simp [hi]
  | generators n g0 g1 hi =>
    have hpt : i.opcode ∈ ptWriters := List.mem_cons_of_mem _ hi
    have hne : i.opcode ≠ .ptInit := by rintro heq; simp [heq] at hi
    exact { base with
      pt := fun u _ => ⟨hpt, fun heq => absurd heq hne⟩, gens := fun _ => hpt
      seeded := fun _ => List.subset_append_left ptWriters [.engSeedr, .engSeedu] hpt }
  | seed p hi =>
    exact { base with
      seeded := fun _ => List.subset_append_right ptWriters _ hi
      engine := fun _ => List.subset_append_left _ [Opcode.engStep, Opcode.engRand] hi
      delay := fun _ => List.subset_append_left _ [Opcode.engRand] hi }
  | step s' hi hs =>
    obtain ⟨p', b', rfl⟩ := engineStep_update hs
    exact { base with engine := fun _ => by simp [hi, pWriters] }
  | rand s' w hi hs =>
    obtain ⟨p', b', rfl⟩ := engineStep_update hs
    exact { base with engine := fun _ => by simp [hi, pWriters], delay := fun _ => by simp [hi, delayWriters] }

theorem Writes.inputsKept {i : Instr} {s t : State} (h : Writes i s t) : InputsKept s t ∧ WaitKept s t := by
  have base := InputsKept.refl s
  have base' := WaitKept.refl s
  cases h with
  | step s' _ hs | rand s' w _ hs =>
    obtain ⟨p', b', rfl⟩ := engineStep_update hs
    exact ⟨{ base with }, { base' with }⟩
  | _ => exact ⟨{ base with }, { base' with }⟩

/-- A completed command but CTL_CLRERR leaves the fault latch. -/
theorem Writes.fault_eq {i : Instr} {s t : State} (h : Writes i s t) :
    i = .ctlClrerr ∨ (t.fault = s.fault ∧ t.errinfo = s.errinfo) := by
  cases h with
  | clearFault hi => exact .inl hi
  | step s' _ hs | rand s' w _ hs =>
    obtain ⟨p', b', rfl⟩ := engineStep_update hs
    exact .inr ⟨rfl, rfl⟩
  | _ => exact .inr ⟨rfl, rfl⟩

theorem Draws.blockFrame {i : Instr} {s s' t : State} (h : Draws i s s') (ht : BlockFrame i s' t) :
    BlockFrame i s t := by
  cases h with
  | nothing => exact ht
  | words => exact { ht with }

theorem Draws.inputsKept {i : Instr} {s s' : State} (h : Draws i s s') : InputsKept s s' := by
  cases h with
  | nothing => exact .refl s
  | words => exact { InputsKept.refl s with }

theorem Draws.fault_eq {i : Instr} {s s' : State} (h : Draws i s s') :
    s'.fault = s.fault ∧ s'.errinfo = s.errinfo := by
  cases h <;> exact ⟨rfl, rfl⟩

theorem Effect.blockFrame {i : Instr} {s t : State} (h : Effect i s t) (hi : i ≠ .ctlSreset) : BlockFrame i s t := by
  have base := BlockFrame.refl i s
  cases h with
  | faulted c => rw [State.faultEntry_eq]; exact { base with }
  | faultPending => exact { base with }
  | completed s' t v hd hw => exact { hd.blockFrame hw.blockFrame with }
  | waits => exact { base with }
  | reset heq => exact absurd heq hi

/-- No command changes the configuration or what the host presents, CTL_SRESET included. -/
theorem Effect.inputsKept {i : Instr} {s t : State} (h : Effect i s t) : InputsKept s t := by
  have base := InputsKept.refl s
  cases h with
  | faulted c => rw [State.faultEntry_eq]; exact { base with }
  | faultPending => exact { base with }
  | completed s' t v hd hw =>
    obtain ⟨hcfg, hcmdQ, hrstN, hready⟩ := hd.inputsKept
    obtain ⟨hcfg', hcmdQ', hrstN', hready'⟩ := hw.inputsKept.1
    exact ⟨hcfg'.trans hcfg, hcmdQ'.trans hcmdQ, hrstN'.trans hrstN, hready'.trans hready⟩
  | waits => exact { base with }
  | reset => exact { base with }

/-- Only a drawing command changes DRAWS, the words or the wait. -/
theorem Effect.waitKept {i : Instr} {s t : State} (h : Effect i s t) (hi : i ≠ .ctlSreset) (hd : isDrawing i = false) :
    WaitKept s t := by
  have base := WaitKept.refl s
  cases h with
  | faulted c => rw [State.faultEntry_eq]; exact { base with }
  | faultPending => exact { base with }
  | completed s' t v hdraws hw =>
    cases hdraws with
    | nothing => exact { hw.inputsKept.2 with }
    | words _ hi' => simp [hd] at hi'
  | waits _ hi' => simp [hd] at hi'
  | reset heq => exact absurd heq hi

/-- What a command does to the fault latch (60_exceptions.md R355, R356, R361): it stays, or CTL_CLRERR clears it, or
the first fault sets it to the info word answered. -/
theorem Effect.fault_cases {i : Instr} {s t : State} (h : Effect i s t) (hi : i ≠ .ctlSreset) :
    i = .ctlClrerr ∨ (t.fault = s.fault ∧ t.errinfo = s.errinfo) ∨
    (s.fault = false ∧ t.fault = true ∧ ∃ c : Cause, t.rsp = some ⟨c.code, t.errinfo⟩) := by
  cases h with
  | faulted c =>
    rw [State.faultEntry_eq]
    cases hf : s.fault with
    | true => exact .inr (.inl ⟨rfl, rfl⟩)
    | false => exact .inr (.inr ⟨rfl, rfl, c, rfl⟩)
  | faultPending => exact .inr (.inl ⟨rfl, rfl⟩)
  | completed s' t v hd hw =>
    obtain ⟨hf, he⟩ := hd.fault_eq
    exact hw.fault_eq.imp id fun ⟨hf', he'⟩ => .inl ⟨hf'.trans hf, he'.trans he⟩
  | waits => exact .inr (.inl ⟨rfl, rfl⟩)
  | reset heq => exact absurd heq hi

/-- A command leaves a response, or it is a drawing command that waits. -/
theorem Effect.responds_or_waits {i : Instr} {s t : State} (h : Effect i s t) :
    (∃ r, t.rsp = some r) ∨ (isDrawing i = true ∧ t.pending = some i ∧ t.rsp = s.rsp) := by
  cases h with
  | waits _ hi => exact .inr ⟨hi, rfl, rfl⟩
  | _ => exact .inl ⟨_, rfl⟩

/-- The words a command takes are the first ones on offer, and DRAWS counts them (10_state.md R56). -/
theorem Effect.draws_front {i : Instr} {s t : State} (h : Effect i s t) (hkept : s.taken = [] ∨ CanWait s i)
    (hi : i ≠ .ctlSreset) :
    ∃ ws, s.rngQ = ws ++ t.rngQ ∧ t.draws = s.draws + BitVec.ofNat 64 ws.length := by
  cases h with
  | faulted c => exact ⟨[], by simp [State.faultEntry], by simp [State.faultEntry]⟩
  | faultPending => exact ⟨[], by simp⟩
  | completed s' t v hd hw =>
    obtain ⟨hdraws, hrngQ, -, -⟩ := hw.inputsKept.2
    cases hd with
    | nothing => exact ⟨[], by simp [hrngQ], by simp [hdraws]⟩
    | words rest _ hrest =>
      obtain ⟨ws, hws⟩ := hrest hkept
      exact ⟨ws, by simp [hrngQ, hws], by simp [hdraws, ← hws]⟩
  | waits => exact ⟨s.rngQ, by simp⟩
  | reset heq => exact absurd heq hi

theorem isDrawing_iff {i : Instr} : isDrawing i = true ↔ i.opcode ∈ [.permShuf, .permShufodd, .engGena, .engSeedu] := by
  cases i <;> simp [isDrawing, Instr.opcode]

end Sys2Proof.Machine
end

section

open Sys2Proof Sys2Proof.Machine

/-- Settles O57: each clause is read off the effect of the command. -/
theorem onlyNamedCommandsWrite : Obligations.OnlyNamedCommandsWrite := by
  intro i s t h hi
  have heff := effect_of_exec h
  have hfault := heff.fault_cases hi
  obtain ⟨hbr, hpr, himg, hpt, hgens, hseeded, hengine, hdelay⟩ := heff.blockFrame hi
  obtain ⟨hcfg, hcmdQ, hrstN, hready⟩ := heff.inputsKept
  refine ⟨hbr, hpr, himg, hpt, hgens, hseeded, hengine, hdelay, ?latched, ?set, ?clear, ?wait,
    heff.responds_or_waits, hcfg, hcmdQ, hrstN, hready⟩
  case latched =>
    intro hf hchange
    rcases hfault with hclr | ⟨hf', he'⟩ | ⟨hf', -⟩
    · exact hclr
    all_goals simp_all
  case set =>
    intro hf hf'
    rcases hfault with rfl | ⟨hsame, -⟩ | ⟨-, -, c, hrsp⟩
    · cases h; cases hf'
    · simp_all
    · exact ⟨_, hrsp, by simpa using c.code_cases, rfl⟩
  case clear =>
    intro hf hf' hchange
    rcases hfault with hclr | ⟨-, he'⟩ | ⟨-, hset, -⟩
    · exact hclr
    all_goals simp_all
  case wait =>
    intro hchange
    by_contra hd
    obtain ⟨hdraws, hrngQ, htaken, hpending⟩ := heff.waitKept hi (by simpa using hd)
    simp_all

/-- Settles O56: a drawing command's words are those its effect says, and another command's wait stays. -/
theorem onlyFourCommandsDraw : Obligations.OnlyFourCommandsDraw := by
  intro i s t hkept h hi
  have heff := effect_of_exec h
  by_cases hd : isDrawing i = true
  · obtain ⟨ws, hws, hdraws⟩ := heff.draws_front hkept hi
    exact ⟨ws, hws, hdraws, fun hno => absurd (isDrawing_iff.mp hd) hno⟩
  · obtain ⟨hdraws, hrngQ, htaken, hpending⟩ := heff.waitKept hi (by simpa using hd)
    exact ⟨[], by simp [hrngQ], by simp [hdraws], fun _ => ⟨rfl, htaken, hpending⟩⟩

end

section
/-! Every effect keeps the invariant. -/

namespace Sys2Proof.Machine

/-- The low byte of the info word is the cause's code (60_exceptions.md R356). -/
theorem faultInfo_code (opc : Byte) (c : Cause) : (faultInfo opc c).extractLsb' 0 8 = c.code := by
  apply BitVec.eq_of_getLsbD_eq
  intro j hj
  have hlow : (opc ++ c.sub ++ c.code).getLsbD j = c.code.getLsbD j := by
    rw [BitVec.getLsbD_append, if_pos hj]
  rw [faultInfo, BitVec.getLsbD_extractLsb', BitVec.getLsbD_setWidth, Nat.zero_add, hlow]
  simp [hj, show j < 64 by omega]

theorem State.DataInv.faultEntry {s : State} (h : s.DataInv) (opc : Byte) (c : Cause) :
    (s.faultEntry opc c).DataInv := by
  rw [State.faultEntry_eq]
  refine { h with noFaultInfo := fun hf => (nomatch hf), faultCode := fun _ => ?_ }
  cases hf : s.fault with
  | true => simpa [hf] using h.faultCode hf
  | false => simpa [hf, faultInfo_code] using c.code_cases

/-- A reset makes the invariant from the configuration alone (10_state.md R66). -/
theorem State.DataInv.blockReset {s : State} (h : s.cfg.Wf) : s.blockReset.DataInv where
  cfgWf := h
  brBound r := by simp [State.getBr]
  prWf r p hp := by simp [State.getPr] at hp
  ptValid u g hg := by simp [State.getPt] at hg
  pWf p hp := by simp at hp
  genokTables hg := by simp at hg
  noGenerators _ := ⟨rfl, rfl⟩
  seededP hs := by simp at hs
  noFaultInfo _ := rfl
  faultCode hf := by simp at hf

/-- step() of a seeded engine multiplies P by a permutation of its size (43_engine.md R281; 10_state.md R50). -/
theorem State.DataInv.engineStep {s t : State} (h : s.DataInv) (hseed : s.seeded = true)
    (hstep : s.engineStep = some t) : t.DataInv := by
  obtain ⟨p, g, x, hp, hg, hx, rfl⟩ := State.engineStep_eq_some.mp hstep
  obtain ⟨hgen, p', hp', hlen⟩ := h.seededP hseed
  obtain rfl : p = p' := Option.some.inj (hp.symm.trans hp')
  obtain ⟨g', hg', hsize, -⟩ := (h.genokTables hgen).2 s.b
  obtain rfl : g = g' := Option.some.inj (hg.symm.trans hg')
  obtain ⟨hxwf, hxlen⟩ := wfPerm_of_mem_validTable (h.ptValid s.b g hg).1 hx
  have hwf : WfPerm (compose p x) := wfPerm_compose (h.pWf p hp) hxwf (by omega)
  exact { h with
    pWf := fun q hq => Option.some.inj hq ▸ hwf
    seededP := fun _ => ⟨hgen, _, rfl, by simpa using hlen⟩ }

theorem State.DataInv.setBr {s : State} (h : s.DataInv) (r : BReg) {v : Nat} (hv : v < 2 ^ (32 * s.cfg.bigLimbs)) :
    (s.setBr r v).DataInv := by
  refine { h with brBound := fun r' => ?_ }
  rw [State.getBr_setBr]
  split
  · exact hv
  · exact h.brBound r'

theorem State.DataInv.setPr {s : State} (h : s.DataInv) (r : PReg) {p : Perm} (hp : WfPerm p) :
    (s.setPr r p).DataInv := by
  refine { h with prWf := fun r' q hq => ?_ }
  rw [State.getPr_setPr] at hq
  split at hq
  · exact Option.some.inj hq ▸ hp
  · exact h.prWf r' q hq

/-- A table built by PT_INIT unloads the generators (42_powertable.md R252). -/
theorem State.DataInv.table {s : State} (h : s.DataInv) (u : PtUnit) {g : PowerTable}
    (hg : ValidTable g ∧ g.k ≤ s.cfg.ptDepth) : (s.setPt u g).dropGenerators.DataInv := by
  refine { h with
    ptValid := fun u' g' hg' => ?_, genokTables := fun hgen => (nomatch hgen)
    noGenerators := fun _ => ⟨rfl, rfl⟩, seededP := fun hseed => nomatch hseed }
  rw [State.getPt_dropGenerators, State.getPt_setPt] at hg'
  split at hg'
  · exact Option.some.inj hg' ▸ hg
  · exact h.ptValid u' g' hg'

/-- An accepted pair gives two valid tables of size n and order L(n) (43_engine.md R290, R291; 10_state.md R50a). -/
theorem State.DataInv.loadGenerators {s : State} (h : s.DataInv) {n : Nat} {g0 g1 : Perm} (hn : 1 ≤ n ∧ n ≤ 64)
    (hdepth : landauOf n ≤ s.cfg.ptDepth) (hpair : PairAccepted n g0 g1) : (s.loadGenerators n g0 g1).DataInv := by
  obtain ⟨hperm0, hperm1, horder0, horder1⟩ := hpair
  have hgen : ∀ u : PtUnit, (if u = 0 then g0 else g1).Perm (List.range n) ∧
      IsOrder (if u = 0 then g0 else g1) (landauOf n) := by
    intro u
    split
    · exact ⟨hperm0, horder0⟩
    · exact ⟨hperm1, horder1⟩
  refine { h with
    ptValid := fun u g hg => ?_, genokTables := fun _ => ⟨hn, fun u => ?_⟩
    noGenerators := fun hgen => (nomatch hgen), seededP := fun hseed => (nomatch hseed) }
  · obtain ⟨hperm, horder⟩ := hgen u
    obtain rfl := Option.some.inj ((State.getPt_loadGenerators s n g0 g1 u).symm.trans hg)
    exact ⟨⟨_, tableOf_ptBuild (wfPerm_of_perm_range hperm hn) horder⟩, hdepth⟩
  · exact ⟨_, State.getPt_loadGenerators s n g0 g1 u, by simpa [ptBuild] using (hgen u).1.length_eq, rfl⟩

/-- Seeding an engine with generators loaded (43_engine.md R287; 10_state.md R50c). -/
theorem State.DataInv.reseed {s : State} (h : s.DataInv) (hgen : s.genok = true) {p : Perm}
    (hp : p.Perm (List.range s.nEng)) : (s.reseed p).DataInv :=
  { h with
    pWf := fun q hq => Option.some.inj hq ▸ wfPerm_of_perm_range hp (h.genokTables hgen).1
    noGenerators := fun hno => absurd (hgen.symm.trans hno) (by decide)
    seededP := fun _ => ⟨hgen, p, rfl, by simpa using hp.length_eq⟩ }

theorem Writes.dataInv {i : Instr} {s t : State} (h : Writes i s t) (hs : s.DataInv) : t.DataInv := by
  cases h with
  | nothing => exact hs
  | clearFault => exact { hs with noFaultInfo := fun _ => rfl, faultCode := fun hf => nomatch hf }
  | br v _ hv => exact hs.setBr _ (hv hs)
  | pr p _ hp => exact hs.setPr _ (hp hs)
  | img => exact { hs with }
  | table g _ hg => exact hs.table _ (hg hs)
  | generators n g0 g1 _ hn hdepth hpair => exact hs.loadGenerators hn hdepth hpair
  | seed p _ hgen hp => exact hs.reseed hgen hp
  | step s' _ hstep hseed => exact hs.engineStep hseed hstep
  | rand s' w _ hstep hseed => exact { hs.engineStep hseed hstep with }

theorem Effect.dataInv {i : Instr} {s t : State} (h : Effect i s t) (hs : s.DataInv) : t.DataInv := by
  cases h with
  | faulted c => exact hs.faultEntry _ c
  | faultPending => exact { hs with }
  | completed s' t v hd hw => exact { hw.dataInv (hd.dataInv hs) with }
  | waits => exact { hs with }
  | reset => exact { State.DataInv.blockReset hs.cfgWf with }

theorem State.WaitInv.of_none {s : State} (hp : s.pending = none) (ht : s.taken = []) : s.WaitInv :=
  ⟨fun _ => ht, fun i hi => by simp [hp] at hi⟩

/-- A command that starts with no words kept, or goes on with those of its wait, keeps no words unless it waits. -/
theorem Effect.waitInv {i : Instr} {s t : State} (h : Effect i s t) (hp : s.pending = none) (hr : s.rsp = none)
    (hstart : s.taken = [] ∨ (s.fault = false ∧ CanWait s i)) : t.WaitInv := by
  cases h with
  | faulted c hi =>
    have ht : s.taken = [] := hstart.resolve_right fun hc => hi hc.2
    rw [State.faultEntry_eq]
    exact .of_none hp ht
  | faultPending hf =>
    have ht : s.taken = [] := hstart.resolve_right fun hc => absurd (hf.symm.trans hc.1) (by decide)
    exact .of_none hp ht
  | completed s' t v hd hw =>
    obtain ⟨-, -, htaken, hpending⟩ := hw.inputsKept.2
    cases hd with
    | nothing hi =>
      have ht : s.taken = [] :=
        hstart.resolve_right fun hc => absurd (hi.symm.trans (isDrawing_of_canWait hc.2)) (by decide)
      exact .of_none (hpending.trans hp) (htaken.trans ht)
    | words => exact .of_none (hpending.trans hp) htaken
  | waits kept _ hf hkept =>
    refine ⟨fun hnone => (nomatch hnone), fun j hj => ?_⟩
    obtain rfl : i = j := Option.some.inj hj
    exact ⟨hr, hf, hkept⟩
  | reset => exact .of_none rfl rfl

/-- No command waits beside an outstanding response. -/
theorem State.WaitInv.pending_none {s : State} (h : s.WaitInv) {r : Response} (hr : s.rsp = some r) :
    s.pending = none := by
  by_contra hp
  obtain ⟨i, hi⟩ := Option.ne_none_iff_exists'.mp hp
  obtain ⟨hnone, -⟩ := h.waiting i hi
  exact Option.some_ne_none r (hr.symm.trans hnone)

theorem exec_keeps_inv {i : Instr} {s t : State} (h : exec i s = .next t) (hs : s.DataInv) (hp : s.pending = none)
    (hr : s.rsp = none) (hstart : s.taken = [] ∨ (s.fault = false ∧ CanWait s i)) : t.Inv :=
  State.inv_iff.mpr ⟨(effect_of_exec h).dataInv hs, (effect_of_exec h).waitInv hp hr hstart⟩

/-! The state after reset (10_state.md R66), whose read-only memories have the properties of 00_scope.md R9. -/

theorem wf_reference : Config.reference.Wf := by
  have hodd : ∀ w : Word, (w ||| 1).getLsbD 0 = true := by simp
  refine ⟨by decide, by decide, fun i => ?_, fun j => ?_, fun i => ?_⟩
  · simp only [Config.reference, Vector.getElem_ofFn, Config.openKey]
    split
    · exact hodd _
    · simp
  · have := j.isLt
    simp only [Config.reference, Vector.getElem_ofFn, Config.openKey]
    rw [if_neg (by omega), if_pos (by omega), if_pos (by omega), Nat.add_sub_cancel_left]
  · simp only [Config.reference, Vector.getElem_ofFn, Config.openDInit]
    split
    · decide
    · assumption

end Sys2Proof.Machine
end

section

open Sys2Proof Sys2Proof.Machine

/-- Settles O12: a step is a reset, a response held or taken, an idle step, a decoding fault or a command executed
(`step_next`), and each of them keeps both parts of the invariant. -/
theorem stepKeepsInv : Obligations.StepKeepsInv := by
  intro s t hinv h
  obtain ⟨hdata, hwait⟩ := State.inv_iff.mp hinv
  rcases step_next h with ⟨-, rfl⟩ | ⟨-, ⟨r, hrsp⟩, rfl⟩ | ⟨-, hrsp, i, hpend, hexec⟩ | ⟨-, -, -, -, rfl⟩ |
    ⟨-, hrsp, hpend, c, q, e, -, -, rfl⟩ | ⟨-, hrsp, hpend, c, q, i, -, -, hexec⟩
  · exact State.inv_iff.mpr ⟨.blockReset hdata.cfgWf, .of_none rfl rfl⟩
  · have hpend := hwait.pending_none hrsp
    split
    · exact State.inv_iff.mpr ⟨{ hdata with }, .of_none hpend (hwait.noneTaken hpend)⟩
    · exact hinv
  · obtain ⟨-, hf, hcan⟩ := hwait.waiting i hpend
    exact exec_keeps_inv hexec { hdata with } rfl hrsp (.inr ⟨hf, hcan⟩)
  · exact hinv
  · have hdata' : State.DataInv { s with cmdQ := q } := { hdata with }
    refine State.inv_iff.mpr ⟨hdata'.faultEntry _ _, ?_⟩
    rw [State.faultEntry_eq]
    exact .of_none hpend (hwait.noneTaken hpend)
  · exact exec_keeps_inv hexec { hdata with } hpend hrsp (.inl (hwait.noneTaken hpend))

/-- Settles O11: the reset state is the reset of a block with the reference configuration. -/
theorem resetKeepsInv : Obligations.ResetKeepsInv :=
  State.inv_iff.mpr ⟨.blockReset (s := State.reset) wf_reference, .of_none rfl rfl⟩

/-- Settles O6: the transaction of each of the three states. -/
theorem stepRunsTheDecodedInstruction : Obligations.StepRunsTheDecodedInstruction := by
  refine ⟨fun s c q i hacc hdec => ?_, fun s i hrst hrsp hpend => ?_, fun s hrst hrsp hpend hq => ?_⟩
  · obtain ⟨hrst, hrsp, hpend, hq⟩ := hacc
    simp [step, State.transaction, State.accept, hrst, hrsp, hpend, hq, hdec]
  · simp [step, State.transaction, hrst, hrsp, hpend]
  · simp [step, State.transaction, hrst, hrsp, hpend, hq]

end

section
/-! Variant-A selection on words that come in two parts (43_engine.md R284; 70_reset_and_hazards.md R413): the attempt
that starves is taken up again from its own first word. -/

namespace Sys2Proof.Machine

/-- The pair the first attempt accepts, given the words of the attempt (43_engine.md R284). -/
def attemptPair (n : Nat) (ws : List Word) : Option (Perm × Perm) :=
  let g0 := shuffle n (ws.take (shuffleDraws n))
  let g1 := shuffleOdd n ((ws.drop (shuffleDraws n)).take (shuffleOddDraws n))
  if hasLandauOrder n g0 && hasLandauOrder n g1 && !shareFixedPoint g0 g1 then some (g0, g1) else none

/-- One round of the attempt loop as an equation (43_engine.md R284). -/
theorem selectLoop_succ_eq (n fuel : Nat) (ws : List Word) :
    selectLoop n (fuel + 1) ws =
      if ws.length < attemptWords n ws then .starved ws
      else (attemptPair n ws).elim (selectLoop n fuel (ws.drop (attemptWords n ws)))
        fun g => .accepted g.1 g.2 (ws.drop (attemptWords n ws)) := by
  rw [selectLoop]
  cases hg0 : hasLandauOrder n (shuffle n (ws.take (shuffleDraws n))) with
  | false => simp [attemptWords, attemptPair, hg0]
  | true =>
    have hwords : attemptWords n ws = shuffleDraws n + shuffleOddDraws n := by simp [attemptWords, hg0]
    by_cases hshort0 : ws.length < shuffleDraws n
    · simp [hwords, hshort0, Nat.lt_add_right _ hshort0]
    by_cases hshort : ws.length < shuffleDraws n + shuffleOddDraws n
    · have : ws.length - shuffleDraws n < shuffleOddDraws n := by omega
      simp [hwords, hg0, hshort0, hshort, this]
    have : ¬ws.length - shuffleDraws n < shuffleOddDraws n := by omega
    cases hg1 : hasLandauOrder n (shuffleOdd n ((ws.drop (shuffleDraws n)).take (shuffleOddDraws n))) with
    | false => simp [hwords, attemptPair, hg0, hg1, hshort0, hshort, this]
    | true =>
      cases hfix : shareFixedPoint (shuffle n (ws.take (shuffleDraws n)))
          (shuffleOdd n ((ws.drop (shuffleDraws n)).take (shuffleOddDraws n))) <;>
        simp [hwords, attemptPair, hg0, hg1, hfix, hshort0, hshort, this]

/-- An attempt takes at least one word. -/
theorem attemptWords_pos {n : Nat} (hn : 2 ≤ n) (ws : List Word) : 0 < attemptWords n ws :=
  lt_of_lt_of_le (by simp only [shuffleDraws]; omega) (shuffleDraws_le_attemptWords n ws)

/-- A fuel above the number of words is never used up (log 11). -/
theorem selectLoop_fuel {n fuel fuel' : Nat} {ws : List Word} (hn : 2 ≤ n) (h : ws.length < fuel)
    (h' : ws.length < fuel') : selectLoop n fuel ws = selectLoop n fuel' ws := by
  induction fuel generalizing fuel' ws with
  | zero => omega
  | succ fuel ih =>
    obtain _ | fuel' := fuel'
    · omega
    rw [selectLoop_succ_eq, selectLoop_succ_eq]
    split
    · rfl
    · have hpos := attemptWords_pos hn ws
      rw [ih (fuel' := fuel') (by rw [List.length_drop]; omega) (by rw [List.length_drop]; omega)]

/-- Selection, attempt by attempt (43_engine.md R284). -/
theorem selectA_eq {n : Nat} (hn : 2 ≤ n) (ws : List Word) :
    selectA n ws =
      if ws.length < attemptWords n ws then .starved ws
      else (attemptPair n ws).elim (selectA n (ws.drop (attemptWords n ws)))
        fun g => .accepted g.1 g.2 (ws.drop (attemptWords n ws)) := by
  rw [selectA, selectLoop_succ_eq]
  split
  · rfl
  · have hpos := attemptWords_pos hn ws
    rw [selectA, selectLoop_fuel hn (by rw [List.length_drop]; omega) (Nat.lt_succ_self _)]

/-- An attempt that has all its words takes the same ones when more follow. -/
theorem attemptWords_append {n : Nat} {ws : List Word} (h : attemptWords n ws ≤ ws.length) (more : List Word) :
    attemptWords n (ws ++ more) = attemptWords n ws := by
  have hle := (shuffleDraws_le_attemptWords n ws).trans h
  rw [attemptWords, List.take_append_of_le_length hle, ← attemptWords]

/-- An attempt that has all its words comes to the same when more follow. -/
theorem attemptPair_append {n : Nat} {ws : List Word} (h : attemptWords n ws ≤ ws.length) (more : List Word) :
    attemptPair n (ws ++ more) = attemptPair n ws := by
  have hle := (shuffleDraws_le_attemptWords n ws).trans h
  cases hg0 : hasLandauOrder n (shuffle n (ws.take (shuffleDraws n))) with
  | false => simp [attemptPair, List.take_append_of_le_length hle, hg0]
  | true =>
    have hle1 : shuffleOddDraws n ≤ (ws.drop (shuffleDraws n)).length := by
      simp only [attemptWords, hg0, if_true] at h
      rw [List.length_drop]
      omega
    simp only [attemptPair, List.take_append_of_le_length hle, List.drop_append_of_le_length hle,
      List.take_append_of_le_length hle1]

/-- Selection that starves goes on, with more words, as selection on the words it kept and those. -/
theorem selectA_append {n : Nat} {ws kept : List Word} (hn : 2 ≤ n) (h : selectA n ws = .starved kept)
    (more : List Word) : selectA n (ws ++ more) = selectA n (kept ++ more) := by
  induction hlen : ws.length using Nat.strong_induction_on generalizing ws with
  | _ len ih =>
    rw [selectA_eq hn] at h
    split at h
    · injection h with h
      rw [h]
    · have hle : attemptWords n ws ≤ ws.length := by omega
      have hpos := attemptWords_pos hn ws
      cases hpair : attemptPair n ws with
      | some g => rw [hpair] at h; cases h
      | none =>
        rw [hpair] at h
        have hshort : ¬(ws ++ more).length < attemptWords n ws := by rw [List.length_append]; omega
        rw [selectA_eq hn (ws ++ more), attemptWords_append hle, attemptPair_append hle, hpair, if_neg hshort,
          List.drop_append_of_le_length hle]
        exact ih _ (by rw [List.length_drop]; omega) h rfl

end Sys2Proof.Machine
end

section
/-! A command that waited and goes on, beside the same command with all the words on offer at once (20_memory.md R90,
R91; 70_reset_and_hazards.md R413; log 6). -/

namespace Sys2Proof.Machine

/-- The state a waiting command goes on from: it has kept the words `kept`, and the words `ws` are on offer. -/
def State.resumed (s : State) (i : Instr) (kept ws : List Word) : State :=
  { s.await i kept with pending := none, rngQ := ws }

/-- The state in which the words `ws` are on offer behind the others from the start. -/
def State.offered (s : State) (ws : List Word) : State := { s with rngQ := s.rngQ ++ ws }

theorem State.supply_resumed (s : State) (i : Instr) (kept ws : List Word) :
    (s.resumed i kept ws).supply = kept ++ ws := rfl

theorem State.supply_offered (s : State) (ws : List Word) : (s.offered ws).supply = s.supply ++ ws :=
  (List.append_assoc s.taken s.rngQ ws).symm

/-- A second wait takes the words the one long wait takes. -/
theorem State.resumed_await (s : State) (i : Instr) (kept ws kept' : List Word) :
    (s.resumed i kept ws).await i kept' = (s.offered ws).await i kept' := by
  simp [State.resumed, State.offered, State.await, BitVec.ofNat_add, BitVec.add_assoc]

/-- The words drawn over a wait are counted as often as without it, if none of those from before the wait is left. -/
theorem State.resumed_drew {s : State} {ws rest : List Word} (hp : s.pending = none) (h : rest.length ≤ ws.length)
    (i : Instr) (kept : List Word) : (s.resumed i kept ws).drew rest = (s.offered ws).drew rest := by
  simp [State.resumed, State.offered, State.drew, State.await, hp, Nat.add_sub_assoc h, BitVec.ofNat_add,
    BitVec.add_assoc]

/-- What a command reads of the state apart from its words: the same before the wait, after it and without it. -/
def ReadsBlock {α : Type} (i : Instr) (s : State) (ws : List Word) (f : State → α) : Prop :=
  (∀ kept, f (s.resumed i kept ws) = f s) ∧ f (s.offered ws) = f s

/-- If `f` leaves the command `i` waiting, then with the words `ws` it goes on to what it does with them from the
start. -/
def Resumes (i : Instr) (s : State) (ws : List Word) (f : State → Out) : Prop :=
  ∀ t, f s = .next t → t.pending = some i →
    ∃ kept, t = s.await i kept ∧ f (s.resumed i kept ws) = f (s.offered ws)

namespace Resumes

variable {i : Instr} {s : State} {ws : List Word}

/-- What completes does not wait. -/
theorem completes {f : State → State} (hp : s.pending = none) (hf : (f s).pending = s.pending) :
    Resumes i s ws fun x => .next (f x) := by
  intro t h ht
  obtain rfl := next_inj h
  cases (hf.trans hp).symm.trans ht

theorem raises {o : Opcode} {c : Cause} (hp : s.pending = none) : Resumes i s ws (raise o c) :=
  completes hp (by simp [State.faultEntry, State.respond])

/-- A check that reads none of the words comes to the same in all three states. -/
theorem check {p : State → Prop} [DecidablePred p] {f g : State → Out} (hf : p s → Resumes i s ws f)
    (hg : ¬p s → Resumes i s ws g) (hread : ReadsBlock i s ws p := by exact ⟨fun _ => rfl, rfl⟩) :
    Resumes i s ws fun x => if p x then f x else g x := by
  intro t h ht
  obtain ⟨hres, hoff⟩ := hread
  by_cases hps : p s
  · simpa [hres, hoff, hps] using hf hps t (by simpa [hps] using h) ht
  · simpa [hres, hoff, hps] using hg hps t (by simpa [hps] using h) ht

theorem unlessFault {f : State → Out} (hp : s.pending = none) (hf : Resumes i s ws f) :
    Resumes i s ws fun x => unlessFault x (f x) :=
  check (p := fun x => x.fault = true) (fun _ => completes hp rfl) fun _ => hf

theorem withSize {o : Opcode} {n : Nat} {f : State → Out} (hp : s.pending = none)
    (hf : 1 ≤ n ∧ n ≤ 64 → Resumes i s ws f) : Resumes i s ws fun x => withSize o n x (f x) :=
  check (p := fun _ => 1 ≤ n ∧ n ≤ 64) hf fun _ => raises hp

theorem withGenerators {o : Opcode} {f : State → Out} (hp : s.pending = none) (hf : Resumes i s ws f) :
    Resumes i s ws fun x => withGenerators o x (f x) :=
  check (p := fun x => x.genok = true) (fun _ => hf) fun _ => raises hp

/-- A fixed number of draws: the command keeps all its words, and the supply is the same as without the wait. -/
theorem drawing {k : State → Nat} {write : State → List Word → State → State} (hp : s.pending = none)
    (hwrite : ∀ drawn x, (write s drawn x).pending = x.pending)
    (hk : ReadsBlock i s ws k := by exact ⟨fun _ => rfl, rfl⟩)
    (hw : ReadsBlock i s ws write := by exact ⟨fun _ => rfl, rfl⟩) :
    Resumes i s ws fun x => drawing i (k x) x fun drawn y => done (write x drawn y) := by
  intro t h ht
  rcases drawing_next h with ⟨hshort, rfl⟩ | ⟨-, h⟩
  · refine ⟨s.supply, rfl, ?_⟩
    have hrest : ((s.supply ++ ws).drop (k s)).length ≤ ws.length := by
      rw [List.length_drop, List.length_append]
      omega
    simp only [Machine.drawing, hk.1, hk.2, hw.1, hw.2, State.supply_resumed, State.supply_offered,
      State.resumed_await, State.resumed_drew hp hrest]
  · obtain rfl := next_inj h
    have hnone : (write s (s.supply.take (k s)) (s.drew (s.supply.drop (k s)))).pending = none :=
      (hwrite _ _).trans hp
    cases hnone.symm.trans ht

/-- ENG_GENA: the command keeps the words of the attempt that starved, and selection goes on with that attempt. -/
theorem engGena {n : Nat} (hp : s.pending = none) : Resumes (.engGena n) s ws (execEngGena n) := by
  refine unlessFault hp (withSize hp fun hn => check (fun _ => raises hp) fun hvar =>
    check (fun _ => raises hp) fun _ => ?_)
  have h2 : 2 ≤ n := two_le_of_noVariantA hn.1 (by simpa using hvar)
  intro t h ht
  have hkept := selectA_wf h2 s.supply
  cases hsel : selectA n s.supply with
  | accepted g0 g1 rest =>
    simp only [hsel] at h
    obtain rfl := next_inj h
    cases hp.symm.trans ht
  | starved kept =>
    simp only [hsel] at h hkept
    obtain rfl := next_inj h
    refine ⟨kept, rfl, ?_⟩
    simp only [State.supply_resumed, State.supply_offered, selectA_append h2 hsel]
    cases hall : selectA n (kept ++ ws) with
    | accepted g0 g1 rest =>
      have hrest := (selectA_append_rest h2 hkept hall).length_le
      simp only [State.resumed_drew hp hrest]
    | starved attempt => simp only [State.resumed_await]

end Resumes

/-- Each drawing command is a chain of checks that read none of the words, and then its draws. -/
theorem exec_resumes {i : Instr} {s : State} (hi : isDrawing i = true) (hp : s.pending = none) (ws : List Word) :
    Resumes i s ws (exec i) := by
  unfold isDrawing at hi
  split at hi
  case h_1 rd n => exact .unlessFault hp (.withSize hp fun _ => .drawing hp fun _ _ => rfl)
  case h_2 rd n =>
    exact .unlessFault hp (.withSize hp fun _ => .check (fun _ => .raises hp) fun _ => .drawing hp fun _ _ => rfl)
  case h_3 n => exact .engGena hp
  case h_4 => exact .unlessFault hp (.withGenerators hp (.drawing hp fun _ _ => rfl))
  case h_5 => cases hi

end Sys2Proof.Machine
end

section

open Sys2Proof Sys2Proof.Machine

/-- Settles O43: a waiting state is the wait of `Resumes`, which takes every word on offer and answers nothing. -/
theorem waitingIsTransparent : Obligations.WaitingIsTransparent := by
  intro i s t ws hi _ hp h ht
  obtain ⟨kept, rfl, hres⟩ := exec_resumes hi hp ws t h ht
  exact ⟨rfl, rfl, hres⟩

end

section
/-! The command word and its fields (30_encoding.md R111, R115): a word is its seven bit fields, and comparing it under
a format's mask with an OPC value compares OPC and finds RSV and the unused fields zero. -/

namespace Sys2Proof

open Laws

/-- RSV = w[19:18] (30_encoding.md R111). -/
def rsvField (w : CmdWord) : BitVec 2 := w.extractLsb' 18 2

theorem append_fields (w : CmdWord) :
    w.extractLsb' 20 12 ++ rsvField w ++ w.extractLsb' 17 1 ++ w.extractLsb' 14 3 ++ w.extractLsb' 11 3 ++
      w.extractLsb' 8 3 ++ opcField w = w := by
  apply BitVec.eq_of_getLsbD_eq
  intro i hi
  rw [pack_bits]
  interval_cases i <;> simp [rsvField, opcField]

/-- Two words are equal if they agree in every field. -/
theorem word_eq_iff {w w' : CmdWord} :
    w = w' ↔ opcField w = opcField w' ∧ rsvField w = rsvField w' ∧ w.extractLsb' 8 3 = w'.extractLsb' 8 3 ∧
      w.extractLsb' 11 3 = w'.extractLsb' 11 3 ∧ w.extractLsb' 14 3 = w'.extractLsb' 14 3 ∧
      w.extractLsb' 17 1 = w'.extractLsb' 17 1 ∧ w.extractLsb' 20 12 = w'.extractLsb' 20 12 := by
  refine ⟨by rintro rfl; simp, ?_⟩
  rintro ⟨hopc, hrsv, hrd, hrs1, hrs2, hu, himm⟩
  rw [← append_fields w, ← append_fields w', hopc, hrsv, hrd, hrs1, hrs2, hu, himm]

theorem packWord_fieldsOf {w : CmdWord} (h : rsvField w = 0) : packWord (opcField w) (fieldsOf w) = w := by
  conv_rhs => rw [← append_fields w, h]
  simp only [packWord, fieldsOf, BitVec.val_toFin, BitVec.ofNat_toNat, BitVec.setWidth_eq]
  rfl

theorem rsvField_packWord (o : Byte) (f : Fields) : rsvField (packWord o f) = 0 := by
  apply BitVec.eq_of_getLsbD_eq
  intro i hi
  rw [rsvField, BitVec.getLsbD_extractLsb', packWord_getLsbD]
  have : i = 0 ∨ i = 1 := by omega
  rcases this with rfl | rfl <;> simp

/-- A field's value is zero if its bits are. -/
theorem fieldsOf_zero_iff (w : CmdWord) :
    ((fieldsOf w).rd = 0 ↔ w.extractLsb' 8 3 = 0) ∧ ((fieldsOf w).rs1 = 0 ↔ w.extractLsb' 11 3 = 0) ∧
      ((fieldsOf w).rs2 = 0 ↔ w.extractLsb' 14 3 = 0) ∧ ((fieldsOf w).u = 0 ↔ w.extractLsb' 17 1 = 0) ∧
      ((fieldsOf w).imm = 0 ↔ w.extractLsb' 20 12 = 0) :=
  ⟨BitVec.toFin_inj (y := 0#3), BitVec.toFin_inj (y := 0#3), BitVec.toFin_inj (y := 0#3),
    BitVec.toFin_inj (y := 0#1), BitVec.toNat_inj (y := 0#12)⟩

theorem fieldsOf_imm_lt (w : CmdWord) : (fieldsOf w).imm < 4096 := (w.extractLsb' 20 12).isLt

/-- A mask covers OPC and RSV, and each operand field whole or not at all, as its lowest bit tells (30_encoding.md
R115). -/
theorem Format.mask_fields (fmt : Format) :
    opcField fmt.mask = BitVec.allOnes 8 ∧ rsvField fmt.mask = BitVec.allOnes 2 ∧
      fmt.mask.extractLsb' 8 3 = BitVec.fill 3 (fmt.mask.getLsbD 8) ∧
      fmt.mask.extractLsb' 11 3 = BitVec.fill 3 (fmt.mask.getLsbD 11) ∧
      fmt.mask.extractLsb' 14 3 = BitVec.fill 3 (fmt.mask.getLsbD 14) ∧
      fmt.mask.extractLsb' 17 1 = BitVec.fill 1 (fmt.mask.getLsbD 17) ∧
      fmt.mask.extractLsb' 20 12 = BitVec.fill 12 (fmt.mask.getLsbD 20) := by
  cases fmt <;> decide

/-- The unused fields of a format are those its mask covers (30_encoding.md R115). -/
theorem unusedZero_iff (f : Fields) (fmt : Format) :
    Machine.UnusedZero f fmt ↔ (fmt.mask.getLsbD 8 = true → f.rd = 0) ∧ (fmt.mask.getLsbD 11 = true → f.rs1 = 0) ∧
      (fmt.mask.getLsbD 14 = true → f.rs2 = 0) ∧ (fmt.mask.getLsbD 17 = true → f.u = 0) ∧
      (fmt.mask.getLsbD 20 = true → f.imm = 0) := by
  cases fmt <;> simp [Machine.UnusedZero, Format.mask]

theorem and_fill_eq_zero_iff {n : Nat} (x : BitVec n) (b : Bool) : x &&& BitVec.fill n b = 0 ↔ (b = true → x = 0) := by
  cases b <;> simp

/-- The fields of a match value: OPC, and zero above it (30_encoding.md R115). -/
theorem fields_setWidth (c : Byte) :
    opcField (c.setWidth 32) = c ∧ rsvField (c.setWidth 32) = 0 ∧ (c.setWidth 32).extractLsb' 8 3 = 0 ∧
      (c.setWidth 32).extractLsb' 11 3 = 0 ∧ (c.setWidth 32).extractLsb' 14 3 = 0 ∧
      (c.setWidth 32).extractLsb' 17 1 = 0 ∧ (c.setWidth 32).extractLsb' 20 12 = 0 := by
  have high : ∀ k n, 8 ≤ k → (c.setWidth 32).extractLsb' k n = 0 := by
    intro k n hk
    apply BitVec.eq_of_getLsbD_eq
    intro i hi
    simp [BitVec.getLsbD_of_ge c (k + i) (by omega)]
  refine ⟨?_, high _ _ ?_, high _ _ ?_, high _ _ ?_, high _ _ ?_, high _ _ ?_, high _ _ ?_⟩
  · apply BitVec.eq_of_getLsbD_eq
    intro i hi
    simp [opcField, hi, show i < 32 by omega]
  all_goals decide

/-- The masked comparison of 30_encoding.md R115, field by field. -/
theorem and_mask_eq_iff (w : CmdWord) (fmt : Format) (c : Byte) :
    w &&& fmt.mask = c.setWidth 32 ↔
      opcField w = c ∧ rsvField w = 0 ∧ Machine.UnusedZero (fieldsOf w) fmt := by
  obtain ⟨mopc, mrsv, mrd, mrs1, mrs2, mu, mimm⟩ := fmt.mask_fields
  obtain ⟨copc, crsv, crd, crs1, crs2, cu, cimm⟩ := fields_setWidth c
  have hand : ∀ k n, (w &&& fmt.mask).extractLsb' k n = w.extractLsb' k n &&& fmt.mask.extractLsb' k n :=
    fun k n => BitVec.extractLsb'_and
  have hopc : opcField (w &&& fmt.mask) = opcField w := by
    rw [opcField, hand, ← opcField, ← opcField, mopc, BitVec.and_allOnes]
  have hrsv : rsvField (w &&& fmt.mask) = rsvField w := by
    rw [rsvField, hand, ← rsvField, ← rsvField, mrsv, BitVec.and_allOnes]
  rw [word_eq_iff, hopc, hrsv, copc, crsv, crd, crs1, crs2, cu, cimm, hand, hand, hand, hand, hand, mrd, mrs1, mrs2,
    mu, mimm, unusedZero_iff]
  obtain ⟨hrd, hrs1, hrs2, hu, himm⟩ := fieldsOf_zero_iff w
  simp only [and_fill_eq_zero_iff, hrd, hrs1, hrs2, hu, himm]

end Sys2Proof
end

section
/-! The decoder and the encoder (30_encoding.md R112 to R119): when the decoder answers what, and that an instruction is
its opcode, its fields and its DATA. -/

namespace Sys2Proof

open Laws

theorem Opcode.ofCode_code (o : Opcode) : Opcode.ofCode o.code = some o := by cases o <;> rfl

theorem Opcode.code_of_ofCode {c : Byte} {o : Opcode} (h : Opcode.ofCode c = some o) : o.code = c := by
  simpa using List.find?_some h

/-- The assigned OPC values fill the five groups from their first value on (30_encoding.md R117). -/
theorem Opcode.all_codes :
    Opcode.all.map (fun o => o.code.toNat) =
      List.range' 0x00 4 ++ List.range' 0x10 21 ++ List.range' 0x30 14 ++ List.range' 0x40 5 ++ List.range' 0x50 9 := by
  rfl

/-- An OPC value is no opcode's if and only if it is reserved (30_encoding.md R118). -/
theorem Opcode.ofCode_eq_none_iff (c : Byte) : Opcode.ofCode c = none ↔ Machine.ReservedOpc c.toNat := by
  have hmem : Opcode.ofCode c = none ↔ c.toNat ∉ Opcode.all.map fun o => o.code.toNat := by
    simp [Opcode.ofCode, BitVec.toNat_inj]
  rw [hmem, Opcode.all_codes]
  simp only [List.mem_append, List.mem_range'_1, Machine.ReservedOpc]
  have := c.isLt
  omega

theorem decode_of_reserved {w : CmdWord} (h : Opcode.ofCode (opcField w) = none) (data : Word) :
    decode w data = .error .badOpcode := by
  simp [decode, h]

/-- With a known OPC the decoder builds the instruction or answers BAD_FIELD (30_encoding.md R114). -/
theorem decode_of_known {w : CmdWord} {o : Opcode} (h : Opcode.ofCode (opcField w) = some o) (data : Word) :
    (rsvField w = 0 ∧ Machine.UnusedZero (fieldsOf w) o.format ∧ decode w data = .ok (o.build (fieldsOf w) data)) ∨
    (¬(rsvField w = 0 ∧ Machine.UnusedZero (fieldsOf w) o.format) ∧ decode w data = .error .badField) := by
  have hmask := and_mask_eq_iff w o.format o.code
  rw [and_iff_right (Opcode.code_of_ofCode h).symm] at hmask
  by_cases hm : w &&& o.format.mask = o.matchWord
  · obtain ⟨hrsv, hzero⟩ := hmask.mp hm
    exact .inl ⟨hrsv, hzero, by simp [decode, h, hm]⟩
  · exact .inr ⟨mt hmask.mpr hm, by simp [decode, h, hm]⟩

/-- The decoder accepts a word with a known OPC, RSV zero and the unused fields zero, and no other (30_encoding.md
R114). -/
theorem decode_eq_ok_iff {w : CmdWord} {data : Word} {i : Instr} :
    decode w data = .ok i ↔ ∃ o : Opcode, opcField w = o.code ∧ rsvField w = 0 ∧
      Machine.UnusedZero (fieldsOf w) o.format ∧ o.build (fieldsOf w) data = i := by
  constructor
  · intro h
    cases ho : Opcode.ofCode (opcField w) with
    | none => cases h.symm.trans (decode_of_reserved ho data)
    | some o =>
      rcases decode_of_known ho data with ⟨hrsv, hzero, heq⟩ | ⟨-, heq⟩
      · exact ⟨o, (Opcode.code_of_ofCode ho).symm, hrsv, hzero, by injection heq.symm.trans h⟩
      · cases h.symm.trans heq
  · rintro ⟨o, hopc, hrsv, hzero, rfl⟩
    rcases decode_of_known (hopc ▸ o.ofCode_code) data with ⟨-, -, heq⟩ | ⟨hnot, -⟩
    · exact heq
    · exact absurd ⟨hrsv, hzero⟩ hnot

theorem decode_eq_badOpcode_iff (w : CmdWord) (data : Word) :
    decode w data = .error .badOpcode ↔ Machine.ReservedOpc (opcField w).toNat := by
  rw [← Opcode.ofCode_eq_none_iff]
  cases ho : Opcode.ofCode (opcField w) with
  | none => simp [decode_of_reserved ho]
  | some o => rcases decode_of_known ho data with ⟨-, -, heq⟩ | ⟨-, heq⟩ <;> simp [heq]

theorem decode_eq_badField_iff {w : CmdWord} {o : Opcode} (ho : Opcode.ofCode (opcField w) = some o) (data : Word) :
    decode w data = .error .badField ↔ ¬(rsvField w = 0 ∧ Machine.UnusedZero (fieldsOf w) o.format) := by
  rcases decode_of_known ho data with ⟨hrsv, hzero, heq⟩ | ⟨hnot, heq⟩
  · simp [heq, hrsv, hzero]
  · simp only [heq, hnot, not_false_eq_true]

theorem Instr.build_self (i : Instr) : i.opcode.build i.fields i.data = i := by cases i <;> rfl

theorem Instr.unusedZero_fields (i : Instr) : Machine.UnusedZero i.fields i.opcode.format := by
  cases i <;> simp only [Instr.fields, Instr.opcode, Opcode.format, Machine.UnusedZero, and_self]

/-- An instruction has an encoding if and only if its IMM fits (30_encoding.md R111). -/
theorem Instr.wellFormed_iff (i : Instr) : i.wellFormed = true ↔ i.fields.imm < 4096 := by
  cases i <;> simp [Instr.wellFormed, Instr.fields, immFits]

theorem Opcode.opcode_build (o : Opcode) (f : Fields) (data : Word) : (o.build f data).opcode = o := by
  cases o <;> rfl

/-- A built instruction holds every field of its format (30_encoding.md R115). -/
theorem Opcode.fields_build {o : Opcode} {f : Fields} (h : Machine.UnusedZero f o.format) (data : Word) :
    (o.build f data).fields = f := by
  obtain ⟨rd, rs1, rs2, u, imm⟩ := f
  cases o <;> simp_all only [Opcode.build, Instr.fields, Opcode.format, Machine.UnusedZero]

/-- DATA matters only through the instruction built from it (30_encoding.md R113). -/
theorem Opcode.build_data (o : Opcode) (f : Fields) (data : Word) : o.build f (o.build f data).data = o.build f data := by
  cases o <;> rfl

/-- The encoder gives back the word an instruction was decoded from (30_encoding.md R114). -/
theorem encode_word_of_decode {w : CmdWord} {data : Word} {i : Instr} (h : decode w data = .ok i) :
    (encode i).word = w := by
  obtain ⟨o, hopc, hrsv, hzero, rfl⟩ := decode_eq_ok_iff.mp h
  rw [encode, Opcode.opcode_build, Opcode.fields_build hzero, ← hopc, packWord_fieldsOf hrsv]

end Sys2Proof

namespace Sys2Proof.Machine

/-- The step that accepts an undecodable word is its fault entry (60_exceptions.md R354). -/
theorem step_of_decode_error {s : State} {c : Command} {q : List Command} {e : DecodeError} (hacc : Accepts s c q)
    (h : decode c.word c.data = .error e) :
    step s = .next (({ s with cmdQ := q } : State).faultEntry (opcField c.word) (decodeCause e)) := by
  obtain ⟨hrst, hrsp, hpend, hq⟩ := hacc
  simp [step, State.transaction, State.accept, hrst, hrsp, hpend, hq, h]

end Sys2Proof.Machine
end

section

open Sys2Proof Sys2Proof.Machine

/-- Settles O1: the encoder packs the opcode with the instruction's fields, whose unused ones are zero, and the decoder
builds the instruction from them again. -/
theorem decodeOfEncode : Obligations.DecodeOfEncode := by
  intro i hwf
  have hfields : fieldsOf (encode i).word = i.fields := Laws.fieldsOf_packWord _ _ (i.wellFormed_iff.mp hwf)
  refine decode_eq_ok_iff.mpr ⟨i.opcode, Laws.opcField_packWord _ _, rsvField_packWord _ _, ?_, ?_⟩
  · rw [hfields]
    exact i.unusedZero_fields
  · rw [hfields]
    exact i.build_self

/-- Settles O2: what the decoder accepts is the packed word of the fields it reads. -/
theorem encodeOfDecode : Obligations.EncodeOfDecode := by
  intro w data i h
  have hword := encode_word_of_decode h
  obtain ⟨o, hopc, hrsv, hzero, rfl⟩ := decode_eq_ok_iff.mp h
  refine ⟨(Instr.wellFormed_iff _).mpr ?_, hword, decode_eq_ok_iff.mpr ⟨o, hopc, hrsv, hzero, o.build_data _ _⟩⟩
  rw [Opcode.fields_build hzero]
  exact fieldsOf_imm_lt w

/-- Settles O3: a reserved OPC is one that no opcode has. -/
theorem reservedOpcodesAreRefused : Obligations.ReservedOpcodesAreRefused := by
  refine ⟨fun w data => ⟨decode_eq_badOpcode_iff w data, fun hfield hres => ?_⟩, fun s c q hacc hres => ?_⟩
  · cases hfield.symm.trans ((decode_eq_badOpcode_iff w data).mpr hres)
  · exact step_of_decode_error (e := .badOpcode) hacc ((decode_eq_badOpcode_iff c.word c.data).mpr hres)

/-- Settles O4: the masked comparison is the check of RSV and of the unused fields (`and_mask_eq_iff`), and a word is
determined by the instruction it decodes to. -/
theorem unusedFieldsMustBeZero : Obligations.UnusedFieldsMustBeZero := by
  refine ⟨fun w data o ho => ⟨?_, ?_⟩, fun w1 w2 d1 d2 i h1 h2 => ?_, fun s c q hacc h =>
    step_of_decode_error (e := .badField) hacc h⟩
  · rw [decode_eq_badField_iff ho, not_and_or, or_comm]
    rfl
  · rw [and_mask_eq_iff, and_iff_right (Opcode.code_of_ofCode ho).symm, and_comm]
    rfl
  · exact (encode_word_of_decode h1).symm.trans (encode_word_of_decode h2)

end

section
/-! Hex strings (00_scope.md R15; 40_biguint.md R157, R174, R175): BIG_HEXIN reads the digits of a number from the most
significant on, and BIG_HEXLEN and BIG_HEXDIG give them back. -/

namespace Sys2Proof.Machine

/-- What BIG_HEXIN of the digits `ds`, in order, makes of the value `v` (40_biguint.md R157). -/
def appendDigits (v : Nat) (ds : List Nat) : Nat := ds.foldl (fun v d => v * 16 + d) v

theorem appendDigits_zero (ds : List Nat) : appendDigits 0 ds = Nat.ofDigits 16 ds.reverse := by
  rw [Nat.ofDigits_eq_foldr, ← List.foldl_reverse, List.reverse_reverse]
  simp only [appendDigits, Nat.cast_id, Nat.mul_comm, Nat.add_comm]

theorem IsHexCode.lt {c : Word} {d : Nat} (h : IsHexCode c d) : d < 16 := by
  rcases h with ⟨h, -⟩ | ⟨-, h, -⟩ <;> omega

theorem IsHexCode.hexValue?_eq {c : Word} {d : Nat} (h : IsHexCode c d) : hexValue? c.toNat = some d := by
  unfold hexValue?
  rcases h with ⟨hd, hc⟩ | ⟨hlow, hd, hc | hc⟩
  · rw [if_pos (by omega), hc, Nat.add_sub_cancel_left]
  · rw [if_neg (by omega), if_pos (by omega), hc, Nat.add_sub_cancel_left, Nat.sub_add_cancel hlow]
  · rw [if_neg (by omega), if_neg (by omega), if_pos (by omega), hc, Nat.add_sub_cancel_left, Nat.sub_add_cancel hlow]

theorem digits_lt {cs : List Word} {ds : List Nat} (h : List.Forall₂ IsHexCode cs ds) : ∀ d ∈ ds, d < 16 := by
  induction h with
  | nil => simp
  | cons hc _ ih => simpa using ⟨hc.lt, ih⟩

/-- A value from 16^n to below 16^(n+1) is rendered with n + 1 digits (40_biguint.md R174). -/
theorem hexLen_eq {v n : Nat} (hlow : 16 ^ n ≤ v) (hhigh : v < 16 ^ (n + 1)) : hexLen v = n + 1 := by
  have hv : v ≠ 0 := by
    have : 0 < 16 ^ n := by positivity
    omega
  have hpow : ∀ k, (16 : Nat) ^ k = 2 ^ (4 * k) := fun k => (pow_mul 2 4 k).symm
  have hle : 4 * n ≤ v.log2 := (Nat.le_log2 hv).mpr (hpow n ▸ hlow)
  have hlt : v.log2 < 4 * (n + 1) := (Nat.log2_lt hv).mpr (hpow (n + 1) ▸ hhigh)
  simp only [hexLen, bitcount, hv, if_false]
  omega

/-- The digits of a normalized string (40_biguint.md section 7): one 0, or a first digit other than 0. -/
def Normalized (ds : List Nat) : Prop := ds = [0] ∨ ∃ d rest, ds = d :: rest ∧ d ≠ 0

theorem hexLen_appendDigits {ds : List Nat} (hds : Normalized ds) (hlt : ∀ d ∈ ds, d < 16) :
    hexLen (appendDigits 0 ds) = ds.length := by
  rcases hds with rfl | ⟨d, rest, rfl, hd⟩
  · rfl
  · have hdig : ∀ x ∈ rest.reverse, x < 16 := fun x hx => hlt x (List.mem_cons_of_mem d (List.mem_reverse.mp hx))
    have htop := hlt d List.mem_cons_self
    have hrest : Nat.ofDigits 16 rest.reverse < 16 ^ rest.length := by
      simpa using Nat.ofDigits_lt_base_pow_length (by decide) hdig
    have hval : appendDigits 0 (d :: rest) = Nat.ofDigits 16 rest.reverse + 16 ^ rest.length * d := by
      rw [appendDigits_zero, List.reverse_cons, Nat.ofDigits_append, Nat.ofDigits_singleton, List.length_reverse]
    refine hexLen_eq ?_ ?_
    · have : 16 ^ rest.length * 1 ≤ 16 ^ rest.length * d := Nat.mul_le_mul_left _ (by omega)
      omega
    · have : 16 ^ rest.length * d ≤ 16 ^ rest.length * 15 := Nat.mul_le_mul_left _ (by omega)
      rw [hval, pow_succ]
      omega

/-- Character k counts from the most significant digit, the power 16^i from the least: the quotient by 16^i drops the
digits behind it (40_biguint.md R175). -/
theorem hexDigit_appendDigits {ds : List Nat} {k d : Nat} (hds : Normalized ds) (hlt : ∀ d ∈ ds, d < 16)
    (hk : ds[k]? = some d) : hexDigit (appendDigits 0 ds) k = hexCode d := by
  obtain ⟨hlen, hget⟩ := List.getElem?_eq_some_iff.mp hk
  have hrev : ds.reverse.drop (ds.length - 1 - k) = d :: ds.reverse.drop (ds.length - 1 - k + 1) := by
    rw [List.drop_eq_getElem_cons (by rw [List.length_reverse]; omega), List.getElem_reverse]
    simp only [show ds.length - 1 - (ds.length - 1 - k) = k by omega, hget]
  have hdig : ∀ x ∈ ds.reverse, x < 16 := fun x hx => hlt x (List.mem_reverse.mp hx)
  rw [hexDigit, hexLen_appendDigits hds hlt, appendDigits_zero,
    Nat.ofDigits_div_pow_eq_ofDigits_drop _ (by decide) _ hdig, hrev, Nat.ofDigits_cons]
  have := hlt d (hget ▸ List.getElem_mem hlen)
  congr 1
  omega

/-! The commands on a block without a latched or a waiting command. -/

theorem completes_of_exec {i : Instr} {s t : State} {v : Word} (h : exec i s = .next (t.respond 0 v))
    (hp : t.pending = none) : completes i s = some (t.respond 0 v, v) := by
  simp [completes, h, hp]

variable {s : State} {rd : BReg}

theorem completes_bigLdi (data : Word) (hf : s.fault = false) (hp : s.pending = none) :
    completes (.bigLdi rd data) s = some ((s.setBr rd data.toNat).respond 0 0, 0) :=
  completes_of_exec (unlessFault_clear _ hf) hp

/-- BIG_HEXIN of a hex character whose value fits the register (40_biguint.md R157). -/
theorem completes_bigHexin {c : Word} {d : Nat} (hf : s.fault = false) (hp : s.pending = none) (hc : IsHexCode c d)
    (hfit : s.getBr rd * 16 + d < s.cap) :
    completes (.bigHexin rd c) s = some ((s.setBr rd (s.getBr rd * 16 + d)).respond 0 0, 0) := by
  refine completes_of_exec ((unlessFault_clear _ hf).trans ?_) hp
  simp only [hc.hexValue?_eq, writeBig, if_pos hfit, done_eq]

theorem completes_bigHexlen (hf : s.fault = false) (hp : s.pending = none) :
    completes (.bigHexlen rd) s =
      some (s.respond 0 (BitVec.ofNat 64 (hexLen (s.getBr rd))), BitVec.ofNat 64 (hexLen (s.getBr rd))) :=
  completes_of_exec (unlessFault_clear _ hf) hp

theorem completes_bigHexdig {k : Nat} (hf : s.fault = false) (hp : s.pending = none) (hk : k < hexLen (s.getBr rd)) :
    completes (.bigHexdig rd k) s =
      some (s.respond 0 (BitVec.ofNat 64 (hexDigit (s.getBr rd) k)), BitVec.ofNat 64 (hexDigit (s.getBr rd) k)) :=
  completes_of_exec ((unlessFault_clear _ hf).trans (if_pos hk)) hp

/-- BIG_HEXIN of each character onto a value of at most m digits: none reaches CAP while m and the characters are
within 8·BIG_LIMBS digits (30_encoding.md R121). -/
theorem hexLoad_eq {cs : List Word} {ds : List Nat} {m : Nat} (hcs : List.Forall₂ IsHexCode cs ds)
    (hf : s.fault = false) (hp : s.pending = none) (hm : s.getBr rd < 16 ^ m)
    (hfit : m + ds.length ≤ 8 * s.cfg.bigLimbs) :
    ∃ t, hexLoad rd cs s = some t ∧ t.fault = false ∧ t.pending = none ∧
      t.getBr rd = appendDigits (s.getBr rd) ds := by
  induction hcs generalizing s m with
  | nil => exact ⟨s, rfl, hf, hp, rfl⟩
  | @cons c d cs ds hc _ ih =>
    have hd := hc.lt
    have hnext : s.getBr rd * 16 + d < 16 ^ (m + 1) := by
      rw [pow_succ]
      omega
    have hcap : s.getBr rd * 16 + d < s.cap := by
      refine hnext.trans_le ?_
      rw [List.length_cons] at hfit
      rw [State.cap_eq, show 32 * s.cfg.bigLimbs = 4 * (8 * s.cfg.bigLimbs) by omega, pow_mul]
      exact Nat.pow_le_pow_right (by decide) (by omega)
    obtain ⟨t, hload, hrest⟩ := ih (s := (s.setBr rd (s.getBr rd * 16 + d)).respond 0 0) (m := m + 1) hf hp
      (by simpa using hnext) (by simp at hfit ⊢; omega)
    refine ⟨t, ?_, ?_⟩
    · simp only [hexLoad, completes_bigHexin hf hp hc hcap, hload]
    · simpa [appendDigits] using hrest

end Sys2Proof.Machine
end

section

open Sys2Proof Sys2Proof.Machine

/-- Settles O29: the register holds the number the string's digits write, which BIG_HEXLEN and BIG_HEXDIG read. -/
theorem hexStringsRoundTrip : Obligations.HexStringsRoundTrip := by
  intro s rd cs ds hf hp hcs hnorm hfit hlen
  have hdigits : ∀ d ∈ ds, d < 16 := digits_lt hcs
  obtain ⟨t, hload, htf, htp, hval⟩ := hexLoad_eq (s := (s.setBr rd 0).respond 0 0) (rd := rd) (m := 0) hcs hf hp
    (by simp) (by simpa using hfit)
  rw [State.getBr_respond, State.getBr_setBr_same] at hval
  refine ⟨_, t, completes_bigLdi 0 hf hp, hload, ⟨_, _, completes_bigHexlen htf htp, ?_⟩, fun k d hk => ?_⟩
  · rw [hval, hexLen_appendDigits hnorm hdigits, BitVec.toNat_ofNat, Nat.mod_eq_of_lt hlen]
  · obtain ⟨hlt, hget⟩ := List.getElem?_eq_some_iff.mp hk
    have hk' : k < hexLen (t.getBr rd) := by rwa [hval, hexLen_appendDigits hnorm hdigits]
    have hd : d < 16 := hdigits d (hget ▸ List.getElem_mem hlt)
    have hcode : hexCode d < 2 ^ 64 := by
      unfold hexCode
      split <;> omega
    refine ⟨_, _, completes_bigHexdig htf htp hk', ?_⟩
    rw [hval, hexDigit_appendDigits hnorm hdigits hk, BitVec.toNat_ofNat, Nat.mod_eq_of_lt hcode]
    rfl

end

section
/-! The command word of an instruction as a number (30_encoding.md R111), and a command of the BigUInt group on a block
without a latched fault: its meaning behind FaultPending. -/

namespace Sys2Proof.Machine

theorem toNat_append_add {m n : Nat} (x : BitVec m) (y : BitVec n) :
    (x ++ y).toNat = x.toNat * 2 ^ n + y.toNat := by
  rw [BitVec.toNat_append, ← Nat.shiftLeft_add_eq_or_of_lt y.isLt, Nat.shiftLeft_eq]

/-- Every instruction is encoded with its opcode and its fields at their places (30_encoding.md R111). -/
theorem wordIs_fields (i : Instr) : WordIs i i.opcode.code.toNat i.fields := by
  intro himm
  have hrd := i.fields.rd.isLt
  have hrs1 := i.fields.rs1.isLt
  have hrs2 := i.fields.rs2.isLt
  have hu := i.fields.u.isLt
  simp only [encode, packWord, toNat_append_add, BitVec.toNat_ofNat]
  omega

/-- Without a latched fault a command behind FaultPending executes (60_exceptions.md R355). -/
theorem exec_of_clear {i : Instr} {s : State} {k : Out} (hf : s.fault = false)
    (h : exec i s = unlessFault s k := by rfl) : exec i s = k :=
  h.trans (unlessFault_clear k hf)

variable {o : Opcode} {s : State}

theorem withIndex_of_lt {idx lim : Nat} {k : Out} (h : idx < lim) : withIndex o idx lim s k = k := if_pos h

theorem withIndex_of_le {idx lim : Nat} {k : Out} (h : lim ≤ idx) :
    withIndex o idx lim s k = .next (s.faultEntry o.code .indexRange) := if_neg h.not_gt

theorem writeBig_of_lt {rd : BReg} {v : Nat} (h : v < 2 ^ (32 * s.cfg.bigLimbs)) :
    writeBig o rd v s = .next { s with br := s.br.set rd.val v, rsp := some ⟨0, 0⟩ } :=
  if_pos (s.cap_eq ▸ h)

theorem writeBig_of_le {rd : BReg} {v : Nat} (h : 2 ^ (32 * s.cfg.bigLimbs) ≤ v) :
    writeBig o rd v s = .next (s.faultEntry o.code .capacity) :=
  if_neg (s.cap_eq ▸ h.not_gt)

end Sys2Proof.Machine
end

section

open Sys2Proof Sys2Proof.Machine

/-- Settles O23: the sum and the product are checked against CAP as they are written, and subtraction of natural numbers
stops at 0. -/
theorem bigAddSubMul : Obligations.BigAddSubMul := by
  intro s rd r1 r2 hf
  refine ⟨wordIs_fields _, fun h => ?_, fun h => ?_, wordIs_fields _, ?_, wordIs_fields _, fun h => ?_, fun h => ?_⟩
  · exact (exec_of_clear hf).trans (writeBig_of_lt h)
  · exact (exec_of_clear hf).trans (writeBig_of_le h)
  · have hsub : (if s.getBr r2 ≤ s.getBr r1 then s.getBr r1 - s.getBr r2 else 0) = s.getBr r1 - s.getBr r2 := by
      split <;> omega
    rw [hsub]
    exact exec_of_clear hf
  · exact (exec_of_clear hf).trans (writeBig_of_lt h)
  · exact (exec_of_clear hf).trans (writeBig_of_le h)

/-- Settles O24: the quotient and remainder of the division law. -/
theorem bigDivRem : Obligations.BigDivRem := by
  intro s rd r1 r2 hf
  refine ⟨wordIs_fields _, wordIs_fields _,
    fun hzero => ⟨(exec_of_clear hf).trans (if_pos hzero), (exec_of_clear hf).trans (if_pos hzero)⟩,
    fun hne => ⟨s.getBr r1 / s.getBr r2, s.getBr r1 % s.getBr r2, ?_, ?_, ?_, ?_⟩⟩
  · exact (Nat.div_add_mod' _ _).symm
  · exact Nat.mod_lt _ (Nat.pos_of_ne_zero hne)
  · exact (exec_of_clear hf).trans (if_neg hne)
  · exact (exec_of_clear hf).trans (if_neg hne)

/-- Settles O26: the bits of the natural numbers' own AND and OR; the three answers of BIG_CMP are its definition's. -/
theorem bigBitwiseAndCompare : Obligations.BigBitwiseAndCompare := by
  intro s rd r1 r2 hf
  refine ⟨wordIs_fields _, ⟨s.getBr r1 &&& s.getBr r2, exec_of_clear hf, fun k => Nat.testBit_and _ _ k⟩,
    wordIs_fields _, ⟨s.getBr r1 ||| s.getBr r2, exec_of_clear hf, fun k => Nat.testBit_or _ _ k⟩,
    wordIs_fields _, exec_of_clear hf⟩

end

section
/-! Limbs (10_state.md R33; 40_biguint.md R156, R172): what each limb is after one is replaced. -/

namespace Sys2Proof.Machine

theorem limbWeight_pos (j : Nat) : 0 < limbWeight j := by
  unfold limbWeight
  positivity

theorem limb_lt (v j : Nat) : limb v j < 2 ^ 32 := Nat.mod_lt _ (by decide)

/-- A limb does not depend on what stands above it. -/
theorem limb_add_mul {i j : Nat} (h : i < j) (a b : Nat) : limb (a * limbWeight j + b) i = limb b i := by
  obtain ⟨k, rfl⟩ : ∃ k, j = i + 1 + k := ⟨j - i - 1, by omega⟩
  have hw : a * limbWeight (i + 1 + k) + b = b + limbWeight i * (2 ^ 32 * (a * limbWeight k)) := by
    simp only [limbWeight, pow_add]
    ring
  rw [limb, hw, Nat.add_mul_div_left _ _ (limbWeight_pos i), Nat.add_mul_mod_self_left, limb]

/-- A limb above limb j is a limb of what stands above limb j. -/
theorem limb_of_gt {i j : Nat} (h : j < i) (v : Nat) : limb v i = limb (v / limbWeight j / 2 ^ 32) (i - j - 1) := by
  have hw : limbWeight i = limbWeight j * 2 ^ 32 * limbWeight (i - j - 1) := by
    rw [limbWeight, limbWeight, limbWeight, ← pow_succ, ← pow_add]
    congr 1
    omega
  rw [limb, limb, hw, ← Nat.div_div_eq_div_mul, ← Nat.div_div_eq_div_mul]

/-- What stands from limb j on after limb j is replaced. -/
theorem setLimb_div (v j new : Nat) :
    setLimb v j new / limbWeight j = v / limbWeight j / 2 ^ 32 * 2 ^ 32 + new := by
  rw [setLimb_eq, Nat.add_comm, Nat.add_mul_div_right _ _ (limbWeight_pos j),
    Nat.div_eq_of_lt (Nat.mod_lt v (limbWeight_pos j)), Nat.zero_add]

/-- Replacing limb j leaves every other limb (40_biguint.md R156). -/
theorem limb_setLimb (v : Nat) {new : Nat} (hnew : new < 2 ^ 32) (i j : Nat) :
    limb (setLimb v j new) i = if i = j then new else limb v i := by
  rcases Nat.lt_trichotomy i j with hlt | rfl | hgt
  · rw [if_neg hlt.ne, setLimb_eq, limb_add_mul hlt]
    conv_rhs => rw [← Nat.div_add_mod' v (limbWeight j), limb_add_mul hlt]
  · rw [if_pos rfl, limb, setLimb_div]
    omega
  · have hhigh : setLimb v j new / limbWeight j / 2 ^ 32 = v / limbWeight j / 2 ^ 32 := by
      rw [setLimb_div]
      omega
    rw [if_neg hgt.ne', limb_of_gt hgt, hhigh, ← limb_of_gt hgt]

end Sys2Proof.Machine
end

section

open Sys2Proof Sys2Proof.Machine

/-- Settles O21: DATA[31:0] is DATA modulo 2^32, and `limb_setLimb` says what each limb becomes. -/
theorem bigLoads : Obligations.BigLoads := by
  intro s rd r1 data hf
  refine ⟨wordIs_fields _, exec_of_clear hf, wordIs_fields _, exec_of_clear hf, fun k => ⟨wordIs_fields _, fun hk => ?_,
    fun hk => ⟨setLimb (s.getBr rd) k (data.toNat % 2 ^ 32), ?_, ?_, fun j => ?_⟩⟩⟩
  · exact (exec_of_clear hf).trans (withIndex_of_le hk)
  · have hdata : (data.extractLsb' 0 32).toNat = data.toNat % 2 ^ 32 := by simp [BitVec.extractLsb'_toNat]
    rw [← hdata]
    exact (exec_of_clear hf).trans (withIndex_of_lt hk)
  · rw [setLimb, limb, limbWeight_eq]
  · have hlimb := limb_setLimb (s.getBr rd) (Nat.mod_lt data.toNat (by decide : 0 < 2 ^ 32)) j k
    simpa only [limb, limbWeight_eq] using hlimb

/-- Settles O28: the truncations are the remainders that words of 32 and 64 bits keep, and a limb fits its word. -/
theorem bigTruncationsAndLimb : Obligations.BigTruncationsAndLimb := by
  intro s r1 hf
  refine ⟨wordIs_fields _, ⟨_, exec_of_clear hf, ?_⟩, wordIs_fields _, ⟨_, exec_of_clear hf, BitVec.toNat_ofNat _ _⟩,
    fun k => ⟨wordIs_fields _, fun hk => ?_, fun hk => ⟨_, (exec_of_clear hf).trans (withIndex_of_lt hk), ?_⟩⟩⟩
  · have hlt : s.getBr r1 % 2 ^ 32 < 2 ^ 64 := (Nat.mod_lt _ (by decide)).trans (by decide)
    rw [BitVec.toNat_setWidth, BitVec.toNat_ofNat, Nat.mod_eq_of_lt hlt]
  · exact (exec_of_clear hf).trans (withIndex_of_le hk)
  · rw [BitVec.toNat_ofNat, Nat.mod_eq_of_lt ((limb_lt _ k).trans (by decide)), limb, limbWeight_eq]

end

section
/-! Lengths (00_scope.md R11; 10_state.md R34; 40_biguint.md R169, R173, R174): bitcount says between which powers of 2
a number lies, and so between which powers of 2^b. -/

namespace Sys2Proof.Machine

theorem two_pow_le_iff {k v : Nat} : 2 ^ k ≤ v ↔ k < bitcount v := by
  unfold bitcount
  split
  · simp [*]
  · rw [Nat.lt_succ_iff, Nat.le_log2 ‹_›]

theorem lt_two_pow_iff {k v : Nat} : v < 2 ^ k ↔ bitcount v ≤ k := by
  rw [← not_le, two_pow_le_iff, not_lt]

theorem bitcount_eq_zero_iff {v : Nat} : bitcount v = 0 ↔ v = 0 := by
  rw [← Nat.le_zero, ← lt_two_pow_iff, pow_zero, Nat.lt_one_iff]

/-- The length to the base 2^b, read off the number of bits. -/
theorem isLength_two_pow_iff {b v len : Nat} :
    IsLength (2 ^ b) v len ↔ 1 ≤ len ∧ bitcount v ≤ b * len ∧ (1 < len → b * (len - 1) < bitcount v) := by
  simp only [IsLength, ← pow_mul, lt_two_pow_iff, two_pow_le_iff]

theorem isLength_bitcount {v : Nat} (hv : v ≠ 0) : IsLength 2 v (bitcount v) := by
  have hpos := mt bitcount_eq_zero_iff.mp hv
  exact isLength_two_pow_iff (b := 1).mpr (by omega)

theorem isLength_nlimbs (v : Nat) : IsLength (2 ^ 32) v (nlimbs v) := by
  have hzero := bitcount_eq_zero_iff (v := v)
  rw [isLength_two_pow_iff, nlimbs]
  split <;> omega

theorem isLength_hexLen (v : Nat) : IsLength 16 v (hexLen v) := by
  have hzero := bitcount_eq_zero_iff (v := v)
  refine isLength_two_pow_iff (b := 4).mpr ?_
  rw [hexLen]
  split <;> omega

/-- A number has one length only. -/
theorem IsLength.unique {base v len len' : Nat} (hbase : 0 < base) (h : IsLength base v len)
    (h' : IsLength base v len') : len = len' := by
  have hle : ∀ {m n}, IsLength base v m → IsLength base v n → m ≤ n := by
    intro m n hm hn
    obtain ⟨-, -, hlow⟩ := hm
    obtain ⟨hpos, hhigh, -⟩ := hn
    by_contra hlt
    have hpow : base ^ n ≤ base ^ (m - 1) := Nat.pow_le_pow_right hbase (by omega)
    have := hlow (by omega)
    omega
  exact (hle h h').antisymm (hle h' h)

/-- A length is at most the number of bits, but for the 1 of the number 0. -/
theorem IsLength.le_bitcount_succ {b v len : Nat} (hb : 0 < b) (h : IsLength (2 ^ b) v len) :
    len ≤ bitcount v + 1 := by
  obtain ⟨-, -, hlow⟩ := isLength_two_pow_iff.mp h
  have : len - 1 ≤ b * (len - 1) := Nat.le_mul_of_pos_left _ hb
  omega

/-- A register holds at most 32·128 bits (10_state.md R33; 00_scope.md R8). -/
theorem State.Inv.bitcount_le {s : State} (h : s.Inv) (r : BReg) : bitcount (s.getBr r) ≤ 4096 := by
  obtain ⟨⟨-, hlimbs⟩, -⟩ := h.cfgWf
  have := lt_two_pow_iff.mp (h.brBound r)
  omega

/-- The length of a register fits RESULT. -/
theorem State.Inv.isLength_result {s : State} (hs : s.Inv) {r : BReg} {b len : Nat} (hb : 0 < b)
    (h : IsLength (2 ^ b) (s.getBr r) len) : IsLength (2 ^ b) (s.getBr r) (BitVec.ofNat 64 len).toNat := by
  have hle := (h.le_bitcount_succ hb).trans (Nat.succ_le_succ (hs.bitcount_le r))
  rwa [BitVec.toNat_ofNat, Nat.mod_eq_of_lt (by omega)]

/-! Shifts (40_biguint.md R164, R165): the guards on bitcount change no value. -/

theorem shlValue_eq (a d : Nat) : shlValue a d = a * 2 ^ d := by
  unfold shlValue
  split
  · simp [*]
  · rfl

theorem shrValue_eq (a d : Nat) : shrValue a d = a / 2 ^ d := by
  unfold shrValue
  split
  · exact (Nat.div_eq_of_lt (lt_two_pow_iff.mpr ‹_›)).symm
  · rfl

/-- A shift by d adds d bits to a number other than 0 (40_biguint.md R164 "Exceptions"). -/
theorem two_pow_le_mul_two_pow_iff {a d n : Nat} : 2 ^ n ≤ a * 2 ^ d ↔ a ≠ 0 ∧ n < bitcount a + d := by
  have hzero := bitcount_eq_zero_iff (v := a)
  rcases Nat.lt_or_ge n d with hlt | hge
  · have hpos : 2 ^ n ≤ a * 2 ^ d ↔ a ≠ 0 := by
      refine ⟨fun h => ?_, fun ha => ?_⟩
      · rintro rfl
        simp at h
      · exact (Nat.pow_le_pow_right (by decide) hlt.le).trans (Nat.le_mul_of_pos_left _ (Nat.pos_of_ne_zero ha))
    rw [hpos]
    omega
  · rw [← Nat.sub_add_cancel hge, pow_add, Nat.mul_le_mul_right_iff (by positivity), two_pow_le_iff]
    omega

theorem shlOverflows_iff {L a d : Nat} : shlOverflows L a d = true ↔ 2 ^ (32 * L) ≤ a * 2 ^ d := by
  rw [two_pow_le_mul_two_pow_iff, shlOverflows, decide_eq_true_iff]

end Sys2Proof.Machine
end

section

open Sys2Proof Sys2Proof.Machine

/-- Settles O27: each command answers a length, and the length of a register that keeps the invariant fits RESULT. -/
theorem bigLengths : Obligations.BigLengths := by
  intro s r1 hinv hf
  refine ⟨wordIs_fields _, ⟨_, exec_of_clear hf, fun hzero => ?_, fun hne => ?_⟩,
    wordIs_fields _, ⟨_, exec_of_clear hf, ?_⟩, wordIs_fields _, ⟨_, exec_of_clear hf, ?_⟩⟩
  · exact congrArg (BitVec.ofNat 64) (bitcount_eq_zero_iff.mpr hzero)
  · exact hinv.isLength_result (b := 1) (by decide) (isLength_bitcount hne)
  · exact hinv.isLength_result (by decide) (isLength_nlimbs _)
  · exact hinv.isLength_result (b := 4) (by decide) (isLength_hexLen _)

/-- Settles O25: the check on bitcount is the comparison with CAP (`shlOverflows_iff`), for every distance. -/
theorem bigShifts : Obligations.BigShifts := by
  intro s rd r1 d hf
  refine ⟨wordIs_fields _, fun h => ?_, fun h => ?_, two_pow_le_mul_two_pow_iff, wordIs_fields _, ?_⟩
  · rw [← shlValue_eq]
    exact (exec_of_clear hf).trans (if_neg (mt shlOverflows_iff.mp h.not_ge))
  · exact (exec_of_clear hf).trans (if_pos (shlOverflows_iff.mpr h))
  · rw [← shrValue_eq]
    exact exec_of_clear hf

end

section
/-! Hex characters (00_scope.md R15; 40_biguint.md R157, R175). -/

namespace Sys2Proof.Machine

/-- The three digit ranges hold hex codes only. -/
theorem isHexCode_of_hexValue? {c : Word} {d : Nat} (h : hexValue? c.toNat = some d) : IsHexCode c d := by
  unfold hexValue? at h
  split at h
  · cases h
    exact .inl (by omega)
  split at h
  · cases h
    exact .inr (by omega)
  split at h
  · cases h
    exact .inr (by omega)
  · cases h

theorem hexValue?_eq_none {c : Word} (h : ¬∃ d, IsHexCode c d) : hexValue? c.toNat = none :=
  Option.eq_none_iff_forall_ne_some.mpr fun d hd => h ⟨d, isHexCode_of_hexValue? hd⟩

theorem hexCode_lt {d : Nat} (hd : d < 16) : hexCode d < 2 ^ 64 := by
  unfold hexCode
  split <;> omega

/-- BIG_HEXIN of a hex digit is a checked write (40_biguint.md R157). -/
theorem exec_bigHexin_of_isHexCode {s : State} {rd : BReg} {c : Word} {d : Nat} (hf : s.fault = false)
    (hc : IsHexCode c d) : exec (.bigHexin rd c) s = writeBig .bigHexin rd (s.getBr rd * 16 + d) s := by
  refine (exec_of_clear hf).trans ?_
  rw [hc.hexValue?_eq]

/-- BIG_HEXIN of any other DATA (40_biguint.md R157). -/
theorem exec_bigHexin_of_not_isHexCode {s : State} {rd : BReg} {c : Word} (hf : s.fault = false)
    (hc : ¬∃ d, IsHexCode c d) : FaultsWith (.bigHexin rd c) s .invalidHexDigit := by
  refine (exec_of_clear hf).trans ?_
  rw [hexValue?_eq_none hc, raise_eq]
  rfl

end Sys2Proof.Machine
end

section

open Sys2Proof Sys2Proof.Machine

/-- Settles O22: `hexValue?` knows the 22 codes and no other, and the length of the rendering is `hexLen`, since a
number has one length only. -/
theorem bigHexCharacters : Obligations.BigHexCharacters := by
  intro s rd hf
  refine ⟨fun c => ⟨wordIs_fields _, exec_bigHexin_of_not_isHexCode hf, fun d hc => ⟨fun h => ?_, fun h => ?_⟩⟩,
    fun k len hlen => ?_⟩
  · exact (exec_bigHexin_of_isHexCode hf hc).trans (writeBig_of_le h)
  · exact (exec_bigHexin_of_isHexCode hf hc).trans (writeBig_of_lt h)
  · obtain rfl := hlen.unique (by decide) (isLength_hexLen _)
    refine ⟨wordIs_fields _, fun hk => ?_, fun hk =>
      ⟨_, _, rfl, ?_, (exec_of_clear hf).trans (withIndex_of_lt hk)⟩⟩
    · exact (exec_of_clear hf).trans (withIndex_of_le hk)
    · rw [BitVec.toNat_ofNat, hexDigit, Nat.mod_eq_of_lt (hexCode_lt (Nat.mod_lt _ (by decide))), hexCode]

end

section
/-! A permutation command on a block without a latched fault: its operand forms, when their check passes and when it
fails (30_encoding.md R116; 41_perm.md R200 to R202). -/

namespace Sys2Proof.Machine

variable {o : Opcode} {s : State}

theorem withSize_of_mem {n : Nat} {k : Out} (h : 1 ≤ n ∧ n ≤ 64) : withSize o n s k = k := if_pos h

theorem withSize_of_not_mem {n : Nat} {k : Out} (h : n < 1 ∨ 64 < n) :
    withSize o n s k = .next (s.faultEntry o.code .badN) := if_neg (by omega)

theorem withPerm_of_some {r : PReg} {p : Perm} {k : Perm → Out} (h : s.getPr r = some p) : withPerm o r s k = k p := by
  simp only [withPerm, h]

theorem withPerm_of_none {r : PReg} {k : Perm → Out} (h : s.getPr r = none) :
    withPerm o r s k = .next (s.faultEntry o.code .emptyOperand) := by
  simp only [withPerm, h, raise_eq]

theorem withPerms_of_some {r1 r2 : PReg} {p q : Perm} {k : Perm → Perm → Out} (hp : s.getPr r1 = some p)
    (hq : s.getPr r2 = some q) : withPerms o r1 r2 s k = k p q :=
  (withPerm_of_some hp).trans (withPerm_of_some hq)

theorem withPerms_of_none {r1 r2 : PReg} {k : Perm → Perm → Out} (h : s.getPr r1 = none ∨ s.getPr r2 = none) :
    withPerms o r1 r2 s k = .next (s.faultEntry o.code .emptyOperand) := by
  cases hp : s.getPr r1 with
  | none => exact withPerm_of_none hp
  | some p => exact (withPerm_of_some hp).trans (withPerm_of_none (h.resolve_left (by simp [hp])))

theorem withEqualSizes_of_eq {n1 n2 : Nat} {k : Out} (h : n1 = n2) : withEqualSizes o n1 n2 s k = k := if_pos h

theorem withEqualSizes_of_ne {n1 n2 : Nat} {k : Out} (h : n1 ≠ n2) :
    withEqualSizes o n1 n2 s k = .next (s.faultEntry o.code .sizeMismatch) := if_neg h

end Sys2Proof.Machine
end

section

open Sys2Proof Sys2Proof.Machine

/-- Settles O31: the size check of PERM_ID and the operand check of PERM_MOV stand before the write. -/
theorem permIdentityAndMove : Obligations.PermIdentityAndMove := by
  intro s rd r1 n hf
  refine ⟨wordIs_fields _, fun h => ?_, fun h => ?_, wordIs_fields _, fun h => ?_, fun p h => ?_⟩
  · exact (exec_of_clear hf).trans (withSize_of_not_mem h)
  · exact (exec_of_clear hf).trans (withSize_of_mem h)
  · exact (exec_of_clear hf).trans (withPerm_of_none h)
  · exact (exec_of_clear hf).trans (withPerm_of_some h)

end

section
/-! Staged images and image reads (41_perm.md R213, R214, R218; 20_memory.md R84). -/

namespace Sys2Proof.Machine

theorem isBijection_iff {a : List Nat} : isBijection a = true ↔ (∀ x ∈ a, x < a.length) ∧ a.Nodup := by
  simp [isBijection]

/-- The staged image, entry by entry (41_perm.md R214). -/
theorem stagedImage_eq_map_range (buf : Vector Byte 64) {n : Nat} (hn : n ≤ 64) :
    stagedImage buf n = (List.range n).map fun x => (buf.toList.getD x 0).toNat := by
  refine List.ext_getElem (by simp [stagedImage_length buf hn]) fun i hi _ => ?_
  rw [stagedImage_length buf hn] at hi
  simp [stagedImage, List.getD_eq_getElem?_getD, hi.trans_le hn]

/-- Bytes put together little-endian are read off again by dividing (20_memory.md R84). -/
theorem sum_bytes_div_mod (e : Nat → Nat) (he : ∀ j, e j < 2 ^ 8) (n j : Nat) (hj : j < n) :
    ((List.range n).map fun k => e k * 2 ^ (8 * k)).sum / 2 ^ (8 * j) % 2 ^ 8 = e j := by
  induction n generalizing e j with
  | zero => omega
  | succ n ih =>
    have hsplit : ((List.range (n + 1)).map fun k => e k * 2 ^ (8 * k)).sum =
        e 0 + 2 ^ 8 * ((List.range n).map fun k => e (k + 1) * 2 ^ (8 * k)).sum := by
      rw [List.range_succ_eq_map, List.map_cons, List.sum_cons, List.map_map, ← List.sum_map_mul_left]
      congr 2
      · simp
      · refine List.map_congr_left fun k _ => ?_
        simp only [Function.comp_apply, Nat.succ_eq_add_one, mul_add, pow_add]
        ring
    have h0 := he 0
    rw [hsplit]
    cases j with
    | zero => omega
    | succ j =>
      rw [mul_add, mul_one, add_comm (8 * j), pow_add, ← Nat.div_div_eq_div_mul, Nat.add_mul_div_left _ _ (by decide),
        Nat.div_eq_of_lt h0, zero_add]
      exact ih (fun k => e (k + 1)) (fun k => he (k + 1)) j (by omega)

/-- A byte of a word made from a number is that byte of the number. -/
theorem extractLsb'_byte_ofNat (v : Nat) {j : Nat} (hj : j < 8) :
    ((BitVec.ofNat 64 v).extractLsb' (8 * j) 8).toNat = v / 2 ^ (8 * j) % 2 ^ 8 := by
  have hsplit : 2 ^ 64 = 2 ^ (8 * j) * 2 ^ (64 - 8 * j) := by
    rw [← pow_add]
    congr 1
    omega
  rw [BitVec.extractLsb'_toNat, BitVec.toNat_ofNat, Nat.shiftRight_eq_div_pow, hsplit, Nat.mod_mul_right_div_self]
  exact Nat.mod_mod_of_dvd _ (pow_dvd_pow 2 (by omega))

/-- PERM_GETIMG's word holds an image entry in each byte, since every entry is a byte (41_perm.md R218). -/
theorem extractLsb'_imageChunk {p : Perm} (hp : WfPerm p) (c : Nat) {j : Nat} (hj : j < 8) :
    ((imageChunk p c).extractLsb' (8 * j) 8).toNat = p.getD (8 * c + j) 0 := by
  obtain ⟨⟨-, hsize⟩, hbound, -⟩ := hp
  have hbyte : ∀ k, p.getD (8 * c + k) 0 < 2 ^ 8 := by
    intro k
    rcases Nat.lt_or_ge (8 * c + k) p.length with hlt | hge
    · have := hbound _ (List.getElem_mem hlt)
      rw [List.getD_eq_getElem _ _ hlt]
      omega
    · rw [List.getD_eq_default _ _ hge]
      decide
  rw [imageChunk, extractLsb'_byte_ofNat _ hj]
  exact sum_bytes_div_mod (fun k => p.getD (8 * c + k) 0) hbyte 8 j hj

/-- PERM_SIZE of a register that is not EMPTY (41_perm.md R219). -/
theorem exec_permSize_of_some {s : State} {r1 : PReg} {p : Perm} (hf : s.fault = false) (h : s.getPr r1 = some p) :
    exec (.permSize r1) s = .next { s with rsp := some ⟨0, BitVec.ofNat 64 p.length⟩ } := by
  refine (exec_of_clear hf).trans ?_
  rw [h]
  rfl

/-- PERM_SIZE of an EMPTY register does not fault (41_perm.md R219). -/
theorem exec_permSize_of_none {s : State} {r1 : PReg} (hf : s.fault = false) (h : s.getPr r1 = none) :
    exec (.permSize r1) s = .next { s with rsp := some ⟨0, 0⟩ } := by
  refine (exec_of_clear hf).trans ?_
  rw [h]
  rfl

end Sys2Proof.Machine
end

section

open Sys2Proof Sys2Proof.Machine

/-- Settles O35: the staging buffer is given byte by byte, and PERM_FROMIMG's check is the one of R214 on the staged
entries. -/
theorem permImages : Obligations.PermImages := by
  intro s hf
  refine ⟨fun c data => ⟨wordIs_fields _, fun hc => ?_, fun hc => ⟨stageChunk s.imgbuf c data, ?_, fun x => ?_⟩⟩,
    fun rd n a ha => ⟨wordIs_fields _, fun hn => ?_, fun h1 h64 hbad => ?_, fun h1 h64 hgood => ?_⟩⟩
  · exact (exec_of_clear hf).trans (withIndex_of_le hc)
  · refine (exec_of_clear hf).trans ?_
    rw [withIndex_of_lt hc, done_eq, State.setImg, State.respond]
  · simp [stageChunk]
  · exact (exec_of_clear hf).trans (withSize_of_not_mem hn)
  all_goals
    have hlen := stagedImage_length s.imgbuf h64
    rw [← stagedImage_eq_map_range s.imgbuf h64] at ha
    subst ha
    refine (exec_of_clear hf).trans ((withSize_of_mem ⟨h1, h64⟩).trans ?_)
  · exact if_neg (mt isBijection_iff.mp (by rwa [hlen]))
  · exact if_pos (isBijection_iff.mpr (by rwa [hlen]))

/-- Settles O36: the chunk is checked before the operand, and the answered word is read byte by byte. -/
theorem permReadImageAndSize : Obligations.PermReadImageAndSize := by
  intro s r1 hf hwf
  refine ⟨fun c => ⟨wordIs_fields _, fun hc => ?_, fun hc hnone => ?_, fun p hc hp =>
    ⟨imageChunk p c, ?_, fun j hj => extractLsb'_imageChunk (hwf p hp) c hj⟩⟩,
    wordIs_fields _, exec_permSize_of_none hf, fun p hp => ⟨_, exec_permSize_of_some hf hp, ?_⟩⟩
  · exact (exec_of_clear hf).trans (withIndex_of_le hc)
  · exact (exec_of_clear hf).trans ((withIndex_of_lt hc).trans (withPerm_of_none hnone))
  · exact (exec_of_clear hf).trans ((withIndex_of_lt hc).trans (withPerm_of_some hp))
  · obtain ⟨⟨-, hsize⟩, -⟩ := hwf p hp
    rw [BitVec.toNat_ofNat, Nat.mod_eq_of_lt (by omega)]

end

section
/-! The permutations of one size as the bijections of Fin n (00_scope.md R14): compose is their product, swapping two
entries is a transposition, and the parity of the inversion count is their sign. -/

namespace Sys2Proof.Machine

/-- The image array of a bijection. -/
def imageOf {n : Nat} (σ : Equiv.Perm (Fin n)) : Perm := List.ofFn fun i => (σ i).val

@[simp] theorem imageOf_length {n : Nat} (σ : Equiv.Perm (Fin n)) : (imageOf σ).length = n := List.length_ofFn

theorem imageOf_getD {n : Nat} (σ : Equiv.Perm (Fin n)) (i : Fin n) : (imageOf σ).getD i.val 0 = (σ i).val := by
  simp [imageOf, List.getD_eq_getElem?_getD]

theorem imageOf_one (n : Nat) : imageOf (1 : Equiv.Perm (Fin n)) = idPerm n := by
  refine List.ext_getElem (by simp) fun i _ _ => ?_
  simp [imageOf, idPerm]

theorem wfPerm_imageOf {n : Nat} (hn : 1 ≤ n ∧ n ≤ 64) (σ : Equiv.Perm (Fin n)) : WfPerm (imageOf σ) := by
  refine ⟨by simpa using hn, fun x hx => ?_, List.nodup_ofFn.mpr (Fin.val_injective.comp σ.injective)⟩
  obtain ⟨i, rfl⟩ := List.mem_ofFn.mp hx
  simp

/-- A permutation is a rearrangement of 0..n-1: the converse of `wfPerm_of_perm_range`. -/
theorem perm_range_of_wfPerm {p : Perm} {n : Nat} (hp : WfPerm p) (hn : p.length = n) : p.Perm (List.range n) := by
  subst hn
  obtain ⟨-, hbound, hnodup⟩ := hp
  exact (List.subperm_of_subset hnodup fun x hx => List.mem_range.mpr (hbound x hx)).perm_of_length_le (by simp)

/-- A rearrangement of 0..n-1 is the image array of a bijection. -/
theorem exists_imageOf {p : Perm} {n : Nat} (hp : p.Perm (List.range n)) : ∃ σ : Equiv.Perm (Fin n), p = imageOf σ := by
  have hlen : p.length = n := by simpa using hp.length_eq
  have hbound : ∀ i : Fin n, p[i.val] < n := fun i => by simpa using hp.mem_iff.mp (List.getElem_mem _)
  have hnodup : p.Nodup := hp.nodup_iff.mpr List.nodup_range
  have hinj : Function.Injective fun i : Fin n => (⟨p[i.val], hbound i⟩ : Fin n) :=
    fun i j hij => Fin.ext (hnodup.getElem_inj_iff.mp (Fin.ext_iff.mp hij))
  refine ⟨.ofBijective _ (Finite.injective_iff_bijective.mp hinj), List.ext_getElem (by simp [hlen]) fun i _ _ => ?_⟩
  simp [imageOf]

/-- "First σ then τ" (41_perm.md R205). -/
theorem compose_imageOf {n : Nat} (σ τ : Equiv.Perm (Fin n)) : compose (imageOf σ) (imageOf τ) = imageOf (τ * σ) := by
  refine List.ext_getElem (by simp) fun i _ _ => ?_
  simp [compose, imageOf, List.getD_eq_getElem?_getD]

end Sys2Proof.Machine
end

section

open Sys2Proof Sys2Proof.Machine

/-- Settles O38: the permutations of one size are the image arrays of `Equiv.Perm (Fin n)`, whose group laws they take
over. -/
theorem compositionIsAGroup : Obligations.CompositionIsAGroup := by
  refine ⟨fun p q => wfPerm_compose, fun p q r hp hq hr hpq hqr => ?_, fun p hp => ?_⟩
  · obtain ⟨n, hn⟩ : ∃ n, r.length = n := ⟨_, rfl⟩
    obtain ⟨σ, rfl⟩ := exists_imageOf (perm_range_of_wfPerm hp (hpq.trans (hqr.trans hn)))
    obtain ⟨τ, rfl⟩ := exists_imageOf (perm_range_of_wfPerm hq (hqr.trans hn))
    obtain ⟨υ, rfl⟩ := exists_imageOf (perm_range_of_wfPerm hr hn)
    simp only [compose_imageOf, mul_assoc]
  · obtain ⟨n, hn⟩ : ∃ n, p.length = n := ⟨_, rfl⟩
    obtain ⟨σ, rfl⟩ := exists_imageOf (perm_range_of_wfPerm hp hn)
    simp only [imageOf_length, ← imageOf_one, compose_imageOf, one_mul, mul_one, true_and]
    refine ⟨imageOf σ⁻¹, wfPerm_imageOf (by simpa using hp.1) σ⁻¹, imageOf_length _, ?_, ?_⟩
    · rw [compose_imageOf, inv_mul_cancel]
    · rw [compose_imageOf, mul_inv_cancel]

end

section
/-! The entry-by-entry readings of the permutation functions (41_perm.md R205, R217, R220, R223). -/

namespace Sys2Proof.Machine

/-- Entry i of a product is q[p[i]] (41_perm.md R205). -/
theorem compose_getElem? {p q : Perm} (hp : ∀ x ∈ p, x < q.length) {i : Nat} (hi : i < p.length) :
    (compose p q)[i]? = q[p.getD i 0]? := by
  have hlt : p[i] < q.length := hp _ (List.getElem_mem hi)
  simp [compose, List.getD_eq_getElem?_getD, hi, hlt]

/-- Two image arrays are equal when their sizes and all entries agree (41_perm.md R220). -/
theorem perm_eq_iff {p q : Perm} : p = q ↔ p.length = q.length ∧ ∀ i, i < p.length → p.getD i 0 = q.getD i 0 := by
  refine ⟨by rintro rfl; simp, fun ⟨hlen, hget⟩ => List.ext_getElem hlen fun i hp hq => ?_⟩
  simpa [List.getD_eq_getElem?_getD, hp, hq] using hget i hp

theorem isId_iff {p : Perm} : isId p = true ↔ ∀ i, i < p.length → p.getD i 0 = i := by
  have hid : ∀ i, i < p.length → (idPerm p.length).getD i 0 = i := fun i hi => by
    simp [idPerm, List.getD_eq_getElem?_getD, hi]
  rw [isId, decide_eq_true_iff, perm_eq_iff, idPerm_length, and_iff_right rfl]
  exact forall₂_congr fun i hi => by rw [hid i hi]

theorem shareFixedPoint_iff {p q : Perm} :
    shareFixedPoint p q = true ↔ ∃ i, i < p.length ∧ p.getD i 0 = i ∧ q.getD i 0 = i := by
  simp [shareFixedPoint]

/-- RESULT of a test is 0 or 1, and 1 exactly when the test holds. -/
theorem testResult {P Q : Prop} [Decidable P] (h : P ↔ Q) :
    ((if P then 1 else 0 : Word) = 0 ∨ (if P then 1 else 0 : Word) = 1) ∧ ((if P then 1 else 0 : Word) = 1 ↔ Q) := by
  by_cases hP : P <;> simp [hP, ← h]

end Sys2Proof.Machine
end

section

open Sys2Proof Sys2Proof.Machine

/-- Settles O37: the operands are read before the write, so the destination may be one of them. -/
theorem permMultiply : Obligations.PermMultiply := by
  intro s rd r1 r2 hf
  refine ⟨wordIs_fields _, fun h => ?_, fun p q hp hq => ⟨fun hne => ?_, fun heq hwf _ =>
    ⟨compose p q, ?_, compose_length p q, fun i hi => compose_getElem? (heq ▸ hwf.2.1) hi⟩⟩⟩
  · exact (exec_of_clear hf).trans (withPerms_of_none h)
  · exact (exec_of_clear hf).trans ((withPerms_of_some hp hq).trans (withEqualSizes_of_ne hne))
  · exact (exec_of_clear hf).trans ((withPerms_of_some hp hq).trans (withEqualSizes_of_eq heq))

/-- Settles O39: each test is its position-by-position reading. -/
theorem permTests : Obligations.PermTests := by
  intro s r1 r2 hf
  refine ⟨wordIs_fields _, wordIs_fields _, wordIs_fields _, fun h => ?_, fun h => ⟨?_, ?_⟩,
    fun p hp => ⟨_, ?_, testResult isId_iff⟩,
    fun p q hp hq => ⟨⟨_, ?_, testResult perm_eq_iff⟩, fun hne => ?_, fun heq =>
      ⟨_, ?_, testResult shareFixedPoint_iff⟩⟩⟩
  · exact (exec_of_clear hf).trans (withPerm_of_none h)
  · exact (exec_of_clear hf).trans (withPerms_of_none h)
  · exact (exec_of_clear hf).trans (withPerms_of_none h)
  · exact (exec_of_clear hf).trans (withPerm_of_some hp)
  · exact (exec_of_clear hf).trans (withPerms_of_some hp hq)
  · exact (exec_of_clear hf).trans ((withPerms_of_some hp hq).trans (withEqualSizes_of_ne hne))
  · exact (exec_of_clear hf).trans ((withPerms_of_some hp hq).trans (withEqualSizes_of_eq heq))

end

section
/-! The swap loop (41_perm.md R206, R207), position by position; and a sampling command with its words on offer. -/

namespace Sys2Proof.Machine

theorem swapped_swapAt {m : Perm} {i j : Nat} (hi : i < m.length) (hj : j < m.length) :
    Swapped m (swapAt m i j) i j := by
  refine ⟨swapAt_length m i j, fun x _ => ?_⟩
  rw [swapAt, List.getD_eq_getElem?_getD, List.getElem?_set, List.getElem?_set, List.length_set]
  rcases eq_or_ne x j with rfl | hxj
  · rcases eq_or_ne x i with rfl | hxi
    · simp [hj]
    · simp [hj, hxi]
  · rcases eq_or_ne x i with rfl | hxi
    · simp [hi, hxj.symm]
    · simp [hxi, hxi.symm, hxj, hxj.symm, List.getD_eq_getElem?_getD]

theorem swapIndex_lt {n i : Nat} (hi : i < n) (ws : List Word) : swapIndex n ws i < n := by
  have := Nat.mod_lt (ws.getD i 0).toNat (Nat.sub_pos_of_lt hi)
  unfold swapIndex
  omega

/-- The loop on one word more, from id(n): the swap of the next position, counted if it is effective. -/
theorem shuffleLoop_take_succ {n i : Nat} {ws : List Word} (hi : i < ws.length) :
    shuffleLoop n 0 (ws.take (i + 1)) (idPerm n) 0 =
      let r := shuffleLoop n 0 (ws.take i) (idPerm n) 0
      (swapAt r.1 i (swapIndex n ws i), if i = swapIndex n ws i then r.2 else r.2 + 1) := by
  have hget : ws.getD i 0 = ws[i] := List.getD_eq_getElem _ _ hi
  rw [List.take_succ_eq_append_getElem hi, shuffleLoop_append]
  simp only [Nat.zero_add, List.length_take, Nat.min_eq_left hi.le, swapIndex, hget]

theorem shuffleLoop_length (n : Nat) {ws : List Word} (hw : ws.length ≤ n) :
    (shuffleLoop n 0 ws (idPerm n) 0).1.length = n := by
  simpa using (shuffleLoop_perm n 0 ws (idPerm n) 0 (by simp) (by omega)).length_eq

/-- The loop goes through the swaps of its positions in order. -/
theorem swapRun_shuffleLoop {n : Nat} {ws : List Word} (hw : ws.length ≤ n) :
    SwapRun n ws ws.length (shuffleLoop n 0 ws (idPerm n) 0).1 := by
  refine ⟨fun i => (shuffleLoop n 0 (ws.take i) (idPerm n) 0).1, rfl, by simp, fun i hi => ?_⟩
  have hlen : (shuffleLoop n 0 (ws.take i) (idPerm n) 0).1.length = n :=
    shuffleLoop_length n (by simp; omega)
  have hin : i < n := by omega
  simp only [shuffleLoop_take_succ hi]
  exact swapped_swapAt (hlen.symm ▸ hin) (hlen.symm ▸ swapIndex_lt hin ws)

theorem swapCount_succ (n : Nat) (ws : List Word) (k : Nat) :
    swapCount n ws (k + 1) = if k = swapIndex n ws k then swapCount n ws k else swapCount n ws k + 1 := by
  rw [swapCount, Finset.range_add_one, Finset.filter_insert]
  by_cases h : k = swapIndex n ws k
  · rw [if_neg (not_not.mpr h), if_pos h, swapCount]
  · rw [if_pos h, if_neg h, Finset.card_insert_of_notMem (by simp), swapCount]

/-- The loop counts its effective swaps. -/
theorem shuffleLoop_count {n : Nat} {ws : List Word} {k : Nat} (hk : k ≤ ws.length) :
    (shuffleLoop n 0 (ws.take k) (idPerm n) 0).2 = swapCount n ws k := by
  induction k with
  | zero => rfl
  | succ k ih => simp only [shuffleLoop_take_succ hk, swapCount_succ, ih (by omega)]

/-- The words on offer are enough: the command draws the first k of them (70_reset_and_hazards.md R413). -/
theorem drawing_of_offer {i : Instr} {k : Nat} {s : State} {ws rest : List Word} {go : List Word → State → Out}
    (ht : s.taken = []) (hq : s.rngQ = ws ++ rest) (hk : ws.length = k) :
    drawing i k s go =
      go ws { s with draws := s.draws + BitVec.ofNat 64 k, taken := [], rngQ := rest } := by
  have hsupply : s.supply = ws ++ rest := by simp [State.supply, ht, hq]
  subst hk
  rw [drawing, if_neg (by simp [hsupply]), hsupply, List.take_left, List.drop_left]
  simp [State.drew, hq]

end Sys2Proof.Machine
end

section

open Sys2Proof Sys2Proof.Machine

/-- Settles O40: the loop's run of swaps and its count, and the draw of exactly the words on offer. -/
theorem permSampling : Obligations.PermSampling := by
  intro s rd n ws rest hf ht hq
  refine ⟨wordIs_fields _, wordIs_fields _, fun h => ⟨?_, ?_⟩, ?_, fun h1 h64 hk => ⟨?_, ?_⟩, fun h2 h64 hk => ⟨?_, ?_⟩⟩
  · exact (exec_of_clear hf).trans (withSize_of_not_mem h)
  · exact (exec_of_clear hf).trans (withSize_of_not_mem h)
  · rintro rfl
    exact (exec_of_clear hf).trans ((withSize_of_mem (by decide)).trans (if_pos rfl))
  · refine (exec_of_clear hf).trans ((withSize_of_mem ⟨h1, h64⟩).trans ((drawing_of_offer ht hq hk).trans ?_))
    simp [State.setPr, State.respond, ht]
  · have hperm := shuffle_perm n ws (by omega)
    exact ⟨wfPerm_of_perm_range hperm ⟨h1, h64⟩, by simpa using hperm.length_eq, hk ▸ swapRun_shuffleLoop (by omega)⟩
  · refine (exec_of_clear hf).trans ((withSize_of_mem (by omega)).trans ((if_neg (by omega)).trans
      ((drawing_of_offer ht hq hk).trans ?_)))
    simp [State.setPr, State.respond, ht]
  · have hperm := shuffleOdd_perm n ws h2 (by omega)
    have hlen := shuffleLoop_length n (ws := ws) (by omega)
    have hcount : (shuffleLoop n 0 ws (idPerm n) 0).2 = swapCount n ws (n - 2) := by
      rw [← hk, ← shuffleLoop_count le_rfl, List.take_length]
    refine ⟨wfPerm_of_perm_range hperm (by omega), by simpa using hperm.length_eq,
      _, hk ▸ swapRun_shuffleLoop (by omega), fun heven => ?_, fun hodd => ?_⟩
    · rw [shuffleOdd, hcount, if_pos heven]
      exact swapped_swapAt (by omega) (by omega)
    · rw [shuffleOdd, hcount, if_neg (by omega)]

end

section
/-! Which draws make which permutation (41_perm.md R206): position i of the result is settled by draw i, so the first k
entries of the result are the first k residues' doing. -/

namespace Sys2Proof.Machine

/-- The residues that the loop takes of its words from position i on: word x is taken modulo n - (i + x). -/
def residues (n i : Nat) (ws : List Word) : List Nat := ws.mapIdx fun x w => w.toNat % (n - (i + x))

theorem residues_cons (n i : Nat) (w : Word) (ws : List Word) :
    residues n i (w :: ws) = w.toNat % (n - i) :: residues n (i + 1) ws := by
  simp only [residues, List.mapIdx_cons, Nat.add_zero, Nat.add_assoc, Nat.add_comm 1]

/-- The residues are a given list when each word has its residue. -/
theorem residues_eq_iff {n : Nat} {ws : List Word} {ds : List Nat} (h : ws.length = ds.length) :
    residues n 0 ws = ds ↔ ∀ i w, ws[i]? = some w → ds[i]? = some (w.toNat % (n - i)) := by
  rw [List.ext_getElem?_iff]
  simp only [residues, List.getElem?_mapIdx, Nat.zero_add]
  refine ⟨fun hds i w hw => by rw [← hds i, hw, Option.map_some], fun hds i => ?_⟩
  cases hw : ws[i]? with
  | none => exact (List.getElem?_eq_none (h ▸ List.getElem?_eq_none_iff.mp hw)).symm
  | some w => exact (hds i w hw).symm

theorem take_swapAt {k i j : Nat} (m : Perm) (hi : k ≤ i) (hj : k ≤ j) : (swapAt m i j).take k = m.take k := by
  rw [swapAt, List.take_set_of_le hj, List.take_set_of_le hi]

theorem swapAt_getD_left {m : Perm} {i j : Nat} (hi : i < m.length) (hj : j < m.length) :
    (swapAt m i j).getD i 0 = m.getD j 0 := by
  simpa using (swapped_swapAt hi hj).2 i hi

/-- The loop from position i leaves the entries before i. -/
theorem take_shuffleLoop {k i : Nat} (n : Nat) (ws : List Word) (m : Perm) (cnt : Nat) (hk : k ≤ i) :
    (shuffleLoop n i ws m cnt).1.take k = m.take k := by
  induction ws generalizing i m cnt with
  | nil => rfl
  | cons w ws ih => rw [shuffleLoop, ih _ _ (by omega), take_swapAt m hk (by omega)]

/-- Two arrays agree on one entry more when they also agree on that entry. -/
theorem take_succ_eq_iff {a b : Perm} {i : Nat} (ha : i < a.length) (hb : i < b.length) :
    a.take (i + 1) = b.take (i + 1) ↔ a.take i = b.take i ∧ a.getD i 0 = b.getD i 0 := by
  rw [List.take_succ_eq_append_getElem ha, List.take_succ_eq_append_getElem hb, List.getD_eq_getElem _ _ ha,
    List.getD_eq_getElem _ _ hb, List.append_singleton_inj]

/-- What the entries of m before i do not hold of p, the entries from i on do. -/
theorem exists_getD_eq {m p : Perm} {i : Nat} (hm : m.Perm p) (htake : m.take i = p.take i) (hi : i < p.length) :
    ∃ d, i + d < p.length ∧ m.getD (i + d) 0 = p.getD i 0 := by
  have hdrop : (m.drop i).Perm (p.drop i) := hm.drop (htake ▸ .refl _)
  have hmem : p[i] ∈ m.drop i := hdrop.mem_iff.mpr (List.drop_eq_getElem_cons hi ▸ List.mem_cons_self)
  obtain ⟨d, hd, heq⟩ := List.mem_iff_getElem.mp hmem
  have hlt : i + d < m.length := by simp at hd; omega
  refine ⟨d, hm.length_eq ▸ hlt, ?_⟩
  rw [List.getD_eq_getElem _ _ hlt, List.getD_eq_getElem _ _ hi, ← heq, List.getElem_drop]

theorem getD_inj {m : Perm} (hm : m.Nodup) {i j : Nat} (hi : i < m.length) (hj : j < m.length)
    (h : m.getD i 0 = m.getD j 0) : i = j := by
  rw [List.getD_eq_getElem _ _ hi, List.getD_eq_getElem _ _ hj] at h
  exact hm.getElem_inj_iff.mp h

/-- The loop over k positions from i makes the entries of p up to i + k for one list of residues: the first brings the
entry of m that p has at position i, and the others are those of the positions behind it. -/
theorem exists_residues {n k i : Nat} {m p : Perm} (hp : p.Perm (List.range n)) (hm : m.Perm p)
    (htake : m.take i = p.take i) (hik : i + k ≤ n) :
    ∃ ds : List Nat, ds.length = k ∧ (∀ x d, ds[x]? = some d → d < n - (i + x)) ∧
      ∀ ws cnt, ws.length = k →
        ((shuffleLoop n i ws m cnt).1.take (i + k) = p.take (i + k) ↔ residues n i ws = ds) := by
  induction k generalizing i m with
  | zero =>
    refine ⟨[], rfl, by simp, fun ws cnt hws => ?_⟩
    obtain rfl := List.length_eq_zero_iff.mp hws
    simpa [shuffleLoop, residues] using htake
  | succ k ih =>
    have hplen : p.length = n := by simpa using hp.length_eq
    have hmlen : m.length = n := hm.length_eq.trans hplen
    have hnodup : m.Nodup := hm.nodup_iff.mpr (hp.nodup_iff.mpr List.nodup_range)
    obtain ⟨d, hd, hget⟩ := exists_getD_eq hm htake (by omega)
    have hstep : ∀ j, i ≤ j → j < n → ((swapAt m i j).take (i + 1) = p.take (i + 1) ↔ j = i + d) := by
      intro j hij hj
      rw [take_succ_eq_iff (by simp; omega) (by omega), take_swapAt m le_rfl hij, and_iff_right htake,
        swapAt_getD_left (by omega) (by omega), ← hget]
      exact ⟨getD_inj hnodup (by omega) (by omega), by rintro rfl; rfl⟩
    obtain ⟨ds, hlen, hlt, hds⟩ := ih (i := i + 1) (m := swapAt m i (i + d))
      ((swapAt_perm (by omega) (by omega)).trans hm) ((hstep _ (by omega) (by omega)).mpr rfl) (by omega)
    refine ⟨d :: ds, by simp [hlen], fun x e hx => ?_, fun ws cnt hws => ?_⟩
    · cases x with
      | zero =>
        obtain rfl : d = e := by simpa using hx
        omega
      | succ x =>
        have := hlt x e hx
        omega
    · obtain ⟨w, ws, rfl⟩ := List.exists_cons_of_length_eq_add_one hws
      have hmod : w.toNat % (n - i) < n - i := Nat.mod_lt _ (by omega)
      rw [shuffleLoop, residues_cons, List.cons.injEq, show i + (k + 1) = i + 1 + k by omega]
      by_cases hw : w.toNat % (n - i) = d
      · rw [hw, hds _ _ (by simpa using hws), and_iff_right rfl]
      · refine iff_of_false (fun h => hw ?_) (fun h => hw h.1)
        have hfirst := congrArg (List.take (i + 1)) h
        rw [List.take_take, List.take_take, Nat.min_eq_left (by omega), take_shuffleLoop _ _ _ _ le_rfl,
          hstep _ (by omega) (by omega)] at hfirst
        omega

/-- The list of residues that the words must have to meet a condition is unique: words with any given residues can be
offered. -/
theorem existsUnique_residues {n k : Nat} {hit : List Word → Prop} (hn : n ≤ 64)
    (h : ∃ ds : List Nat, ds.length = k ∧ (∀ i d, ds[i]? = some d → d < n - i) ∧
      ∀ ws : List Word, ws.length = k → (hit ws ↔ residues n 0 ws = ds)) :
    ∃! ds : List Nat, ds.length = k ∧ (∀ i d, ds[i]? = some d → d < n - i) ∧
      ∀ ws : List Word, ws.length = k →
        (hit ws ↔ ∀ i w, ws[i]? = some w → ds[i]? = some (w.toNat % (n - i))) := by
  obtain ⟨ds, hlen, hlt, hds⟩ := h
  refine ⟨ds, ⟨hlen, hlt, fun ws hws => (hds ws hws).trans (residues_eq_iff (hws.trans hlen.symm))⟩, ?_⟩
  rintro ds' ⟨hlen', hlt', hds'⟩
  have hwords : residues n 0 (ds'.map (BitVec.ofNat 64)) = ds' := by
    refine (residues_eq_iff (by simp)).mpr fun i w hw => ?_
    obtain ⟨d, hd, rfl⟩ : ∃ d, ds'[i]? = some d ∧ BitVec.ofNat 64 d = w := by simpa using hw
    have := hlt' i d hd
    rw [hd, BitVec.toNat_ofNat, Nat.mod_eq_of_lt (by omega : d < 2 ^ 64), Nat.mod_eq_of_lt this]
  have hws : (ds'.map (BitVec.ofNat 64)).length = k := by simpa using hlen'
  have hhit := (hds' _ hws).mpr ((residues_eq_iff (by simp)).mp hwords)
  exact hwords.symm.trans ((hds _ hws).mp hhit)

/-- A rearrangement of p that has the first k entries of p rearranges the others. -/
theorem exists_append_of_take_eq {p q : Perm} {k : Nat} (hq : q.Perm p) (h : q.take k = p.take k) :
    ∃ l, q = p.take k ++ l ∧ l.Perm (p.drop k) :=
  ⟨q.drop k, by rw [← h, List.take_append_drop], hq.drop (h ▸ .refl _)⟩

/-- Rearrangements of one another that agree on all entries but the last are equal. -/
theorem eq_of_take_pred_eq {p q : Perm} (hp : 1 ≤ p.length) (hq : q.Perm p)
    (h : q.take (p.length - 1) = p.take (p.length - 1)) : q = p := by
  obtain ⟨l, rfl, hl⟩ := exists_append_of_take_eq hq h
  obtain ⟨x, hx⟩ := List.length_eq_one_iff.mp (show (p.drop (p.length - 1)).length = 1 by simp; omega)
  rw [hx, List.perm_singleton] at hl
  rw [hl, ← hx, List.take_append_drop]

end Sys2Proof.Machine
end

section

open Sys2Proof Sys2Proof.Machine

/-- Settles O41: the loop over n - 1 positions makes all entries but the last, which is the one left. -/
theorem shuffleGivesEachPermutationOnce : Obligations.ShuffleGivesEachPermutationOnce := by
  rintro n p hn hp rfl
  have hperm := perm_range_of_wfPerm hp rfl
  obtain ⟨ds, hlen, hlt, hds⟩ := exists_residues (k := p.length - 1) (i := 0) (m := idPerm _) hperm hperm.symm
    (by simp) (by omega)
  refine existsUnique_residues hn ⟨ds, hlen, by simpa using hlt, fun ws hws => ?_⟩
  rw [← hds ws 0 hws, Nat.zero_add]
  have hloop : (shuffle p.length ws).Perm p := (shuffle_perm _ ws (by omega)).trans hperm.symm
  exact ⟨fun h => congrArg _ h, eq_of_take_pred_eq hp.1.1 hloop⟩

end

section
/-! Oddness (00_scope.md R16; 41_perm.md R207): the parity of the inversion count is the sign, and every effective swap
changes it. -/

namespace Sys2Proof.Machine

/-- The sign is -1 to the number of inversions. -/
theorem sign_eq_neg_one_pow_inversions {n : Nat} (σ : Equiv.Perm (Fin n)) :
    Equiv.Perm.sign σ = (-1) ^ inversions (imageOf σ) := by
  have hprod : ((-1) ^ inversions (imageOf σ) : ℤˣ) = ∏ x ∈ Finset.range n ×ˢ Finset.range n,
      if x.1 < x.2 ∧ (imageOf σ).getD x.2 0 < (imageOf σ).getD x.1 0 then -1 else 1 := by
    rw [Finset.prod_ite, Finset.prod_const, Finset.prod_const_one, mul_one, inversions, imageOf_length]
  rw [hprod, Finset.prod_product, Finset.prod_range, σ.sign_eq_prod_prod_Ioi]
  refine Finset.prod_congr rfl fun i _ => ?_
  rw [Finset.prod_range, ← Finset.filter_lt_eq_Ioi, Finset.prod_filter]
  refine Finset.prod_congr rfl fun j _ => ?_
  simp only [imageOf_getD, Fin.val_fin_lt]
  by_cases hij : i < j
  · have hne : σ i ≠ σ j := σ.injective.ne hij.ne
    rcases hne.lt_or_gt with hlt | hgt
    · simp [hij, hlt, hlt.not_gt]
    · simp [hij, hgt, hgt.not_gt]
  · simp [hij]

theorem even_inversions_iff {n : Nat} (σ : Equiv.Perm (Fin n)) :
    Even (inversions (imageOf σ)) ↔ Equiv.Perm.sign σ = 1 := by
  rw [sign_eq_neg_one_pow_inversions, neg_one_pow_eq_one_iff_even (by decide)]

/-- Swapping two entries is a transposition. -/
theorem swapAt_imageOf {n : Nat} (σ : Equiv.Perm (Fin n)) (i j : Fin n) :
    swapAt (imageOf σ) i.val j.val = imageOf (σ * Equiv.swap i j) := by
  obtain ⟨hlen, hget⟩ := swapped_swapAt (m := imageOf σ) (i := i.val) (j := j.val) (by simp) (by simp)
  refine perm_eq_iff.mpr ⟨by simp, fun x hx => ?_⟩
  lift x to Fin n using by simpa using hx
  rw [hget x.val (by simp), imageOf_getD, imageOf_getD, imageOf_getD, imageOf_getD, Equiv.Perm.mul_apply,
    Equiv.swap_apply_def]
  simp only [Fin.val_inj, apply_ite σ, apply_ite Fin.val]

theorem swapAt_self (m : Perm) (i : Nat) : swapAt m i i = m := by
  refine perm_eq_iff.mpr ⟨by simp, fun x hx => ?_⟩
  by_cases hi : i < m.length
  · rw [(swapped_swapAt hi hi).2 x (by simpa using hx)]
    split <;> simp_all
  · simp [swapAt, List.set_eq_of_length_le (not_lt.mp hi)]

/-- An effective swap changes the parity of the inversion count. -/
theorem even_inversions_swapAt {p : Perm} {n i j : Nat} (hp : p.Perm (List.range n)) (hi : i < n) (hj : j < n)
    (hij : i ≠ j) : Even (inversions (swapAt p i j)) ↔ ¬Even (inversions p) := by
  obtain ⟨σ, rfl⟩ := exists_imageOf hp
  lift i to Fin n using hi
  lift j to Fin n using hj
  rw [swapAt_imageOf, even_inversions_iff, even_inversions_iff, Equiv.Perm.sign_mul,
    Equiv.Perm.sign_swap (fun h => hij (congrArg Fin.val h))]
  rcases Int.units_eq_one_or (Equiv.Perm.sign σ) with h | h <;> rw [h] <;> decide

/-- The loop's count of effective swaps has the parity of the inversions it made. -/
theorem even_inversions_shuffleLoop {n k : Nat} {ws : List Word} (hk : k ≤ ws.length) (hw : ws.length ≤ n) :
    Even (inversions (shuffleLoop n 0 (ws.take k) (idPerm n) 0).1) ↔
      Even (shuffleLoop n 0 (ws.take k) (idPerm n) 0).2 := by
  induction k with
  | zero =>
    have hid : Even (inversions (idPerm n)) := by rw [← imageOf_one, even_inversions_iff, Equiv.Perm.sign_one]
    simpa [shuffleLoop] using hid
  | succ k ih =>
    have ih := ih (by omega)
    have hperm : (shuffleLoop n 0 (ws.take k) (idPerm n) 0).1.Perm (List.range n) :=
      shuffleLoop_perm n 0 _ (idPerm n) 0 (by simp) (by simp; omega)
    simp only [shuffleLoop_take_succ hk]
    by_cases hj : k = swapIndex n ws k
    · rw [if_pos hj, ← hj, swapAt_self, ih]
    · rw [if_neg hj, even_inversions_swapAt hperm (by omega) (swapIndex_lt (by omega) ws) hj, ih, Nat.even_add_one]

/-- shuffle_odd makes an odd number of inversions (41_perm.md section 1, the oddness law). -/
theorem odd_inversions_shuffleOdd {n : Nat} {ws : List Word} (hn : 2 ≤ n) (hws : ws.length = n - 2) :
    ¬Even (inversions (shuffleOdd n ws)) := by
  have hloop := even_inversions_shuffleLoop (n := n) (ws := ws) le_rfl (by omega)
  rw [List.take_length] at hloop
  have hperm : (shuffleLoop n 0 ws (idPerm n) 0).1.Perm (List.range n) :=
    shuffleLoop_perm n 0 ws (idPerm n) 0 (by simp) (by omega)
  rw [shuffleOdd]
  split
  · rw [even_inversions_swapAt hperm (by omega) (by omega) (by omega), hloop, not_not, Nat.even_iff]
    assumption
  · rw [hloop, Nat.even_iff]
    assumption

/-- The final swap of shuffle_odd leaves the first n - 2 entries. -/
theorem take_shuffleOdd (n : Nat) (ws : List Word) :
    (shuffleOdd n ws).take (n - 2) = (shuffleLoop n 0 ws (idPerm n) 0).1.take (n - 2) := by
  rw [shuffleOdd]
  split
  · exact take_swapAt _ le_rfl (by omega)
  · rfl

theorem swapAt_append_pair (t : Perm) (a b : Nat) :
    swapAt (t ++ [a, b]) t.length (t.length + 1) = t ++ [b, a] := by
  simp [swapAt, List.getD_eq_getElem?_getD]

/-- Rearrangements of one another that agree on all entries but the last two are equal or differ by their swap. -/
theorem eq_or_eq_swapAt_of_take_eq {p q : Perm} {n : Nat} (hn : 2 ≤ n) (hp : p.length = n) (hq : q.Perm p)
    (h : q.take (n - 2) = p.take (n - 2)) : q = p ∨ q = swapAt p (n - 2) (n - 1) := by
  obtain ⟨k, rfl⟩ := Nat.exists_eq_add_of_le' hn
  rw [Nat.add_sub_cancel] at h
  obtain ⟨l, rfl, hl⟩ := exists_append_of_take_eq hq h
  obtain ⟨a, b, hab⟩ := List.length_eq_two.mp (show (p.drop k).length = 2 by simp [hp])
  have hsplit : p.take k ++ [a, b] = p := by rw [← hab, List.take_append_drop]
  have hswap : swapAt p k (k + 1) = p.take k ++ [b, a] := by
    have hpair := swapAt_append_pair (p.take k) a b
    rwa [hsplit, show (p.take k).length = k by simp [hp]] at hpair
  rcases List.perm_pair.mp (hab ▸ hl) with rfl | rfl
  · exact .inl hsplit
  · exact .inr hswap.symm

/-- An odd permutation is settled by all its entries but the last two. -/
theorem eq_of_take_eq_of_odd {p q : Perm} {n : Nat} (hn : 2 ≤ n) (hp : p.Perm (List.range n)) (hq : q.Perm p)
    (hpodd : ¬Even (inversions p)) (hqodd : ¬Even (inversions q)) (h : q.take (n - 2) = p.take (n - 2)) : q = p := by
  rcases eq_or_eq_swapAt_of_take_eq hn (by simpa using hp.length_eq) hq h with heq | rfl
  · exact heq
  · exact absurd ((even_inversions_swapAt hp (by omega) (by omega) (by omega)).mpr hpodd) hqodd

end Sys2Proof.Machine
end

section

open Sys2Proof Sys2Proof.Machine

/-- Settles O42: every effective swap changes the parity, and the last swap of shuffle_odd makes it odd; of the two
arrays that share the first n - 2 entries, which the residues settle, one is odd. -/
theorem oddShuffleGivesEachOddPermutationOnce : Obligations.OddShuffleGivesEachOddPermutationOnce := by
  intro n h2 h64
  refine ⟨fun ws hws => Nat.not_even_iff.mp (odd_inversions_shuffleOdd h2 hws), fun p hp hlen hodd => ?_⟩
  have hperm : p.Perm (List.range n) := perm_range_of_wfPerm hp hlen
  obtain ⟨ds, hdlen, hlt, hds⟩ := exists_residues (k := n - 2) (i := 0) (m := idPerm n) hperm hperm.symm
    (by simp) (by omega)
  refine existsUnique_residues h64 ⟨ds, hdlen, by simpa using hlt, fun ws hws => ?_⟩
  rw [← hds ws 0 hws, Nat.zero_add]
  have hsample : (shuffleOdd n ws).Perm p := (shuffleOdd_perm n ws h2 (by omega)).trans hperm.symm
  rw [← take_shuffleOdd]
  exact ⟨fun h => congrArg _ h, eq_of_take_eq_of_odd h2 hperm hsample (Nat.not_even_iff.mpr hodd)
    (odd_inversions_shuffleOdd h2 hws)⟩

end

section
/-! The order search finds every order within its bound (42_powertable.md R250, R252): the converse of
`isOrder_of_orderUpTo`. -/

namespace Sys2Proof.Machine

/-- The order loop started at p^k runs up to the first m ≥ k with p^m = id, if its fuel lasts (42_powertable.md R250). -/
theorem orderLoop_of_first {p : Perm} {fuel k m : Nat} (hkm : k ≤ m) (hfuel : m < k + fuel)
    (hid : permPow p m = idPerm p.length) (hfirst : ∀ j, k ≤ j → j < m → permPow p j ≠ idPerm p.length) :
    orderLoop p fuel (permPow p k) k = some m := by
  induction fuel generalizing k with
  | zero => omega
  | succ fuel ih =>
    unfold orderLoop
    rcases Nat.eq_or_lt_of_le hkm with rfl | hlt
    · exact if_pos ((isId_permPow p k).mpr hid)
    · rw [if_neg (mt (isId_permPow p k).mp (hfirst k le_rfl hlt))]
      exact ih hlt (by omega) fun j hj => hfirst j (by omega)

/-- The search answers the order exactly when it is within the bound (42_powertable.md R252). -/
theorem orderUpTo_eq_some_iff {p : Perm} {bound k : Nat} : orderUpTo bound p = some k ↔ IsOrder p k ∧ k ≤ bound := by
  refine ⟨isOrder_of_orderUpTo, fun ⟨⟨hpos, hid, hfirst⟩, hle⟩ => ?_⟩
  have hloop : orderLoop p bound (permPow p 1) 1 = some k := orderLoop_of_first hpos (by omega) hid hfirst
  rwa [permPow_one] at hloop

theorem IsOrder.le {p : Perm} {k m : Nat} (hk : IsOrder p k) (hm : IsOrder p m) : k ≤ m := by
  obtain ⟨-, -, hfirst⟩ := hk
  obtain ⟨hpos, hid, -⟩ := hm
  exact not_lt.mp fun hlt => hfirst m hpos hlt hid

/-- A search to a bound below the order answers nothing (42_powertable.md R252). -/
theorem orderUpTo_eq_none {p : Perm} {bound k : Nat} (hk : IsOrder p k) (hlt : bound < k) :
    orderUpTo bound p = none := by
  refine Option.eq_none_iff_forall_ne_some.mpr fun m hm => ?_
  obtain ⟨hord, hle⟩ := isOrder_of_orderUpTo hm
  have := hk.le hord
  omega

end Sys2Proof.Machine
end

section
/-! The entries of a built table (42_powertable.md R251; 10_state.md R41): its powers multiply by adding exponents, and
the exponents count modulo the order. -/

namespace Sys2Proof.Machine

/-- p^i is the image array of the i-th power of p's bijection (00_scope.md R14). -/
theorem permPow_imageOf {n : Nat} (σ : Equiv.Perm (Fin n)) (i : Nat) : permPow (imageOf σ) i = imageOf (σ ^ i) := by
  induction i with
  | zero => rw [permPow, imageOf_length, pow_zero, imageOf_one]
  | succ i ih => rw [permPow, ih, compose_imageOf, pow_succ']

theorem compose_permPow {p : Perm} (hp : WfPerm p) (i j : Nat) :
    compose (permPow p i) (permPow p j) = permPow p (i + j) := by
  obtain ⟨σ, hσ⟩ := exists_imageOf (perm_range_of_wfPerm hp rfl)
  rw [hσ, permPow_imageOf, permPow_imageOf, permPow_imageOf, compose_imageOf, ← pow_add, Nat.add_comm]

/-- p^k = p^0, so the powers repeat after k = ord(p) steps. -/
theorem IsOrder.periodic {p : Perm} {k : Nat} (hk : IsOrder p k) (hp : WfPerm p) :
    Function.Periodic (permPow p) k := by
  obtain ⟨-, hid, -⟩ := hk
  intro i
  calc permPow p (i + k) = compose (permPow p i) (permPow p k) := (compose_permPow hp i k).symm
    _ = compose (permPow p i) (permPow p 0) := by rw [hid, permPow]
    _ = permPow p i := compose_permPow hp i 0

theorem TableOf.length_tab {g : PowerTable} {p : Perm} (h : TableOf g p) : g.tab.length = g.k := by
  obtain ⟨-, -, -, htab⟩ := h
  rw [htab, List.length_map, List.length_range]

/-- T[i] = p^i for i < k, and no entry beyond (42_powertable.md R251). -/
theorem TableOf.getElem?_eq_some_iff {g : PowerTable} {p x : Perm} (h : TableOf g p) {i : Nat} :
    g.tab[i]? = some x ↔ i < g.k ∧ permPow p i = x := by
  obtain ⟨-, -, -, htab⟩ := h
  simp [htab, List.getElem?_eq_some_iff]

theorem TableOf.getElem?_of_lt {g : PowerTable} {p : Perm} (h : TableOf g p) {i : Nat} (hi : i < g.k) :
    g.tab[i]? = some (permPow p i) := h.getElem?_eq_some_iff.mpr ⟨hi, rfl⟩

end Sys2Proof.Machine
end

section
/-! The power-table commands on a block without a latched fault (42_powertable.md R252 to R256): their operand forms,
when their check passes and when it fails, and the bounds of the table of Landau's function. -/

namespace Sys2Proof.Machine

variable {o : Opcode} {s : State}

theorem withTable_of_some {u : PtUnit} {g : PowerTable} {k : PowerTable → Out} (h : s.getPt u = some g) :
    withTable o u s k = k g := by
  simp only [withTable, h]

theorem withTable_of_none {u : PtUnit} {k : PowerTable → Out} (h : s.getPt u = none) :
    withTable o u s k = .next (s.faultEntry o.code .emptyOperand) := by
  simp only [withTable, h, raise_eq]

theorem withEntry_of_le {g : PowerTable} {e : Nat} {k : Perm → Out} (h : g.k ≤ e) :
    withEntry o g e s k = .next (s.faultEntry o.code .ptIndex) := if_neg h.not_gt

/-- An index below k of a built table reads p^e (42_powertable.md R251, R254). -/
theorem withEntry_of_lt {g : PowerTable} {p : Perm} {e : Nat} {k : Perm → Out} (hg : TableOf g p) (h : e < g.k) :
    withEntry o g e s k = k (permPow p e) := by
  simp only [withEntry, if_pos h, hg.getElem?_of_lt h]

/-- PT_INIT of a permutation whose order is found within PT_DEPTH (42_powertable.md R252). -/
theorem exec_ptInit_of_order {u : PtUnit} {r1 : PReg} {p : Perm} {k : Nat} (hf : s.fault = false)
    (hp : s.getPr r1 = some p) (hk : orderUpTo s.cfg.ptDepth p = some k) :
    exec (.ptInit u r1) s = .next
      { s with
        pt := s.pt.set u.val (some (ptBuild p k)), nEng := 0, genok := false, seeded := false, rsp := some ⟨0, 0⟩ } := by
  refine (exec_of_clear hf).trans ((withPerm_of_some hp).trans ?_)
  rw [hk]
  rfl

/-- PT_INIT of a permutation whose order is not found within PT_DEPTH (42_powertable.md R252). -/
theorem exec_ptInit_of_no_order {u : PtUnit} {r1 : PReg} {p : Perm} (hf : s.fault = false) (hp : s.getPr r1 = some p)
    (hk : orderUpTo s.cfg.ptDepth p = none) : FaultsWith (.ptInit u r1) s .capacity := by
  refine (exec_of_clear hf).trans ((withPerm_of_some hp).trans ?_)
  rw [hk]
  rfl

/-- PT_MULPOW reads the permutation and the unit, and then compares their sizes (42_powertable.md R255). -/
theorem exec_ptMulpow_of_some {rd r1 : PReg} {u : PtUnit} {e : Word} {x : Perm} {g : PowerTable}
    (hf : s.fault = false) (hx : s.getPr r1 = some x) (hg : s.getPt u = some g) :
    exec (.ptMulpow rd r1 u e) s = withEqualSizes .ptMulpow x.length g.n s
      (withEntry .ptMulpow g e.toNat s fun y => done (s.setPr rd (compose x y))) :=
  (exec_of_clear hf).trans ((withPerm_of_some hx).trans (withTable_of_some hg))

/-- PT_MULPOW without one of its operands (42_powertable.md R255). -/
theorem exec_ptMulpow_of_none {rd r1 : PReg} {u : PtUnit} {e : Word} (hf : s.fault = false)
    (h : s.getPr r1 = none ∨ s.getPt u = none) :
    FaultsWith (.ptMulpow rd r1 u e) s .emptyOperand := by
  refine (exec_of_clear hf).trans ?_
  cases hp : s.getPr r1 with
  | none => exact withPerm_of_none hp
  | some x => exact (withPerm_of_some hp).trans (withTable_of_none (h.resolve_left (by simp [hp])))

/-- The table of Landau's function has an entry for each size up to 64 (10_state.md R47). -/
theorem landauTable_getElem? {n : Nat} (hn : n ≤ 64) : landauTable[n]? = some (landauOf n) := by
  have hlen : landauTable.length = 65 := rfl
  have hlt : n < landauTable.length := by omega
  rw [landauOf, List.getD_eq_getElem _ _ hlt, List.getElem?_eq_getElem hlt]

/-- Every value of Landau's function fits a RESULT word. -/
theorem landauOf_lt {n : Nat} (hn : n ≤ 64) : landauOf n < 2 ^ 64 := by
  have hall : ∀ v ∈ landauTable, v < 2 ^ 64 := by decide
  exact hall _ (List.mem_of_getElem? (landauTable_getElem? hn))

end Sys2Proof.Machine
end

section

open Sys2Proof Sys2Proof.Machine

/-- Settles O44: the order search finds the order exactly when it is at most PT_DEPTH, and ptbuild with the order of p
makes the table of p. -/
theorem tableInit : Obligations.TableInit := by
  intro s u r1 hf
  refine ⟨wordIs_fields _, fun hnone => (exec_of_clear hf).trans (withPerm_of_none hnone),
    fun p k hp hwf hord => ⟨fun hlt => ?_, fun hle => ⟨ptBuild p k, tableOf_ptBuild hwf hord, rfl, ?_⟩⟩⟩
  · exact exec_ptInit_of_no_order hf hp (orderUpTo_eq_none hord hlt)
  · exact exec_ptInit_of_order hf hp (orderUpTo_eq_some_iff.mpr ⟨hord, hle⟩)

/-- Settles O45: the entries are the powers of p, whose exponents add modulo the order; the entry k - 1 times p is p^k. -/
theorem tableProducts : Obligations.TableProducts := by
  refine ⟨fun g p hg => ?_, fun s rd r1 u g x e hf hu he => ⟨?_, fun hx hsize => ?_⟩⟩
  · have ⟨hwf, _, hord, _⟩ := hg
    have ⟨hpos, hid, _⟩ := hord
    refine ⟨hg.length_tab, hg.getElem?_of_lt hpos, fun x hx => ?_, fun i j x y hx hy => ?_⟩
    · obtain ⟨-, rfl⟩ := hg.getElem?_eq_some_iff.mp hx
      calc compose (permPow p (g.k - 1)) p = permPow p (g.k - 1 + 1) := rfl
        _ = idPerm p.length := by rw [Nat.sub_add_cancel hpos, hid]
    · obtain ⟨-, rfl⟩ := hg.getElem?_eq_some_iff.mp hx
      obtain ⟨-, rfl⟩ := hg.getElem?_eq_some_iff.mp hy
      rw [compose_permPow hwf, hg.getElem?_of_lt (Nat.mod_lt _ hpos), (hord.periodic hwf).map_mod_nat]
  · exact (exec_of_clear hf).trans ((withTable_of_some hu).trans (withEntry_of_le he))
  · exact (exec_ptMulpow_of_some hf hx hu).trans ((withEqualSizes_of_eq hsize).trans (withEntry_of_le he))

/-- Settles O46: the operands are read in the order of the rules, and an index below k reads p^e. -/
theorem tableReads : Obligations.TableReads := by
  intro s rd r1 u e hf
  refine ⟨wordIs_fields _, wordIs_fields _, wordIs_fields _, fun hnone => ⟨?_, ?_⟩, exec_ptMulpow_of_none hf,
    fun g p hu hg hk => ⟨⟨BitVec.ofNat 64 g.k, ?_, ?_⟩, fun he => ?_, fun he => ?_, fun x hx =>
      ⟨fun hne => ?_, fun hsize he => ?_, fun hsize he => ?_⟩⟩⟩
  · exact (exec_of_clear hf).trans (withTable_of_none hnone)
  · exact (exec_of_clear hf).trans (withTable_of_none hnone)
  · exact (exec_of_clear hf).trans (withTable_of_some hu)
  · rw [BitVec.toNat_ofNat, Nat.mod_eq_of_lt hk]
  · exact (exec_of_clear hf).trans ((withTable_of_some hu).trans (withEntry_of_le he))
  · exact (exec_of_clear hf).trans ((withTable_of_some hu).trans (withEntry_of_lt hg he))
  · exact (exec_ptMulpow_of_some hf hx hu).trans (withEqualSizes_of_ne hne)
  · exact (exec_ptMulpow_of_some hf hx hu).trans ((withEqualSizes_of_eq hsize).trans (withEntry_of_le he))
  · exact (exec_ptMulpow_of_some hf hx hu).trans ((withEqualSizes_of_eq hsize).trans (withEntry_of_lt hg he))

/-- Settles O47: the statement's list is `landauTable`, whose values fit a word. -/
theorem landauLookup : Obligations.LandauLookup := by
  intro s n hf
  refine ⟨wordIs_fields _, fun hn => ?_, fun hn => ⟨BitVec.ofNat 64 (landauOf n), ?_, ?_⟩⟩
  · exact (exec_of_clear hf).trans (if_neg (by omega))
  · exact (exec_of_clear hf).trans (if_pos hn)
  · rw [BitVec.toNat_ofNat, Nat.mod_eq_of_lt (landauOf_lt hn)]
    exact landauTable_getElem? hn

end

section
/-! An engine command on a block without a latched fault: its stage checks, when they pass and when they fail
(43_engine.md R280). -/

namespace Sys2Proof.Machine

variable {o : Opcode} {s : State}

theorem withGenerators_of_true {k : Out} (h : s.genok = true) : withGenerators o s k = k := if_pos h

theorem withGenerators_of_false {k : Out} (h : s.genok = false) :
    withGenerators o s k = .next (s.faultEntry o.code .noGenerators) := if_neg (by simp [h])

theorem withSeeded_of_true {k : Out} (h : s.seeded = true) : withSeeded o s k = k := if_pos h

theorem withSeeded_of_false {k : Out} (h : s.seeded = false) :
    withSeeded o s k = .next (s.faultEntry o.code .notSeeded) := if_neg (by simp [h])

/-- A seeded engine goes on with the value it has by 10_state.md R50 (log 13). -/
theorem withSeeded_orBroken_of_some {α : Type} {x : Option α} {a : α} {k : α → Out} (h : s.seeded = true)
    (hx : x = some a) : withSeeded o s (orBroken x k) = k a := by
  simp only [withSeeded_of_true h, hx, orBroken]

end Sys2Proof.Machine
end

section
/-! Generators (43_engine.md R284, R286): the check of their orders, and the first attempt of variant-A selection with
its words given. -/

namespace Sys2Proof.Machine

/-- The requirement on a generator is that its order is L(n) (43_engine.md R284, R286). -/
theorem hasLandauOrder_iff {n : Nat} {p : Perm} : hasLandauOrder n p = true ↔ IsOrder p (landauOf n) := by
  rw [hasLandauOrder, decide_eq_true_iff, orderUpTo_eq_some_iff, and_iff_left le_rfl]

theorem hasLandauOrder_eq_false_iff {n : Nat} {p : Perm} :
    hasLandauOrder n p = false ↔ ¬IsOrder p (landauOf n) := by
  rw [← hasLandauOrder_iff, Bool.not_eq_true]

theorem noVariantA_eq_false_iff {n : Nat} : noVariantA n = false ↔ n ∉ [1, 3, 8, 15] := by
  simp [noVariantA]

/-- The two units of loaded generators hold the powers of each (42_powertable.md R250; 43_engine.md R290, R291). -/
theorem State.loadGenerators_eq (s : State) (n : Nat) {g0 g1 : Perm} (hg0 : WfPerm g0) (hg1 : WfPerm g1)
    (h0 : IsOrder g0 (landauOf n)) (h1 : IsOrder g1 (landauOf n)) :
    ∃ t0 t1, TableOf t0 g0 ∧ TableOf t1 g1 ∧ s.loadGenerators n g0 g1 =
      { s with pt := (s.pt.set 0 (some t0)).set 1 (some t1), nEng := n, genok := true, seeded := false } :=
  ⟨_, _, tableOf_ptBuild hg0 h0, tableOf_ptBuild hg1 h1, rfl⟩

/-- Selection on the words of one attempt and more: the pair of the attempt, or selection on the words behind it
(43_engine.md R284). -/
theorem selectA_append_of_attempt {n : Nat} {words : List Word} (hn : 2 ≤ n)
    (h : attemptWords n words = words.length) (more : List Word) :
    selectA n (words ++ more) =
      (attemptPair n words).elim (selectA n more) fun g => .accepted g.1 g.2 more := by
  rw [selectA_eq hn, attemptWords_append h.le, attemptPair_append h.le, h, List.drop_left,
    if_neg (by rw [List.length_append]; omega)]

section

variable {n : Nat} {w0 w1 : List Word} (h0 : w0.length = n - 1)
include h0

theorem shuffle_take_self : shuffle n (w0.take (shuffleDraws n)) = shuffle n w0 := by
  rw [shuffleDraws, List.take_of_length_le h0.le]

theorem shuffle_take_words (ws : List Word) : shuffle n ((w0 ++ ws).take (shuffleDraws n)) = shuffle n w0 := by
  rw [shuffleDraws, List.take_left' h0]

/-- An attempt that fails the first requirement takes n - 1 words (43_engine.md R284). -/
theorem attemptWords_of_not_order (hg0 : ¬IsOrder (shuffle n w0) (landauOf n)) : attemptWords n w0 = w0.length := by
  rw [attemptWords, shuffle_take_self h0, if_neg (mt hasLandauOrder_iff.mp hg0), shuffleDraws, h0]

theorem attemptPair_of_not_order (hg0 : ¬IsOrder (shuffle n w0) (landauOf n)) : attemptPair n w0 = none := by
  simp [attemptPair, shuffle_take_self h0, hasLandauOrder_eq_false_iff.mpr hg0]

theorem shareFixedPoint_words_iff (w1 : List Word) :
    shareFixedPoint (shuffle n w0) (shuffleOdd n w1) = true ↔
      ∃ i, i < n ∧ (shuffle n w0).getD i 0 = i ∧ (shuffleOdd n w1).getD i 0 = i := by
  have hlen : (shuffle n w0).length = n := by simpa using (shuffle_perm n w0 (by omega)).length_eq
  rw [shareFixedPoint_iff, hlen]

variable (h1 : w1.length = n - 2)
include h1

/-- An attempt that passes the first requirement takes n - 1 + n - 2 words (43_engine.md R284). -/
theorem attemptWords_of_order (hg0 : IsOrder (shuffle n w0) (landauOf n)) :
    attemptWords n (w0 ++ w1) = (w0 ++ w1).length := by
  rw [attemptWords, shuffle_take_words h0, if_pos (hasLandauOrder_iff.mpr hg0), List.length_append, h0, h1,
    shuffleDraws, shuffleOddDraws]

/-- The attempt on the words w0, w1 accepts exactly a pair that meets the three requirements (43_engine.md R284). -/
theorem attemptPair_of_words :
    attemptPair n (w0 ++ w1) =
      if hasLandauOrder n (shuffle n w0) && hasLandauOrder n (shuffleOdd n w1) &&
          !shareFixedPoint (shuffle n w0) (shuffleOdd n w1) then
        some (shuffle n w0, shuffleOdd n w1)
      else none := by
  have hodd : ((w0 ++ w1).drop (shuffleDraws n)).take (shuffleOddDraws n) = w1 := by
    rw [shuffleDraws, List.drop_left' h0, shuffleOddDraws, List.take_of_length_le h1.le]
  simp only [attemptPair, shuffle_take_words h0, hodd]

theorem attemptPair_eq_some (hg0 : IsOrder (shuffle n w0) (landauOf n))
    (hg1 : IsOrder (shuffleOdd n w1) (landauOf n))
    (hfix : ¬∃ i, i < n ∧ (shuffle n w0).getD i 0 = i ∧ (shuffleOdd n w1).getD i 0 = i) :
    attemptPair n (w0 ++ w1) = some (shuffle n w0, shuffleOdd n w1) := by
  rw [← shareFixedPoint_words_iff h0 w1, Bool.not_eq_true] at hfix
  simp [attemptPair_of_words h0 h1, hasLandauOrder_iff.mpr hg0, hasLandauOrder_iff.mpr hg1, hfix]

theorem attemptPair_eq_none (h : ¬IsOrder (shuffleOdd n w1) (landauOf n) ∨
    ∃ i, i < n ∧ (shuffle n w0).getD i 0 = i ∧ (shuffleOdd n w1).getD i 0 = i) :
    attemptPair n (w0 ++ w1) = none := by
  rw [← shareFixedPoint_words_iff h0 w1, ← hasLandauOrder_eq_false_iff] at h
  rw [attemptPair_of_words h0 h1]
  rcases h with hg1 | hfix
  · simp [hg1]
  · simp [hfix]

end

end Sys2Proof.Machine
end

section
/-! ENG_GENB behind its size check (43_engine.md R291): the orders of both generators, and then PT_DEPTH. -/

namespace Sys2Proof.Machine

variable {s : State} {n : Nat} {r1 r2 : BReg}

theorem exec_engGenb_of_not_orders (hf : s.fault = false) (hn : 1 ≤ n ∧ n ≤ 64)
    (hbad : ¬(IsOrder (fromRank n (s.getBr r1)) (landauOf n) ∧ IsOrder (fromRank n (s.getBr r2)) (landauOf n))) :
    FaultsWith (.engGenb n r1 r2) s .orderNotLandau := by
  refine (exec_of_clear hf).trans ((withSize_of_mem hn).trans (if_neg ?_))
  rwa [Bool.and_eq_true, hasLandauOrder_iff, hasLandauOrder_iff]

theorem exec_engGenb_of_orders (hf : s.fault = false) (hn : 1 ≤ n ∧ n ≤ 64)
    (h0 : IsOrder (fromRank n (s.getBr r1)) (landauOf n)) (h1 : IsOrder (fromRank n (s.getBr r2)) (landauOf n)) :
    exec (.engGenb n r1 r2) s =
      if s.cfg.ptDepth < landauOf n then raise .engGenb .capacity s
      else done (s.loadGenerators n (fromRank n (s.getBr r1)) (fromRank n (s.getBr r2))) := by
  refine (exec_of_clear hf).trans ((withSize_of_mem hn).trans (if_pos ?_))
  rw [hasLandauOrder_iff.mpr h0, hasLandauOrder_iff.mpr h1, Bool.and_self]

end Sys2Proof.Machine
end

section
/-! ENG_GENA behind its checks (43_engine.md R290), and words drawn before it. -/

namespace Sys2Proof.Machine

/-- What ENG_GENA makes of the outcome of selection: it loads the pair, or waits with the words of its attempt
(43_engine.md R290; 70_reset_and_hazards.md R417). -/
def State.selected (s : State) (n : Nat) : Selection → Out
  | .accepted g0 g1 rest => done ((s.drew rest).loadGenerators n g0 g1)
  | .starved attempt => .next (s.await (.engGena n) attempt)

/-- ENG_GENA of size n passes its checks, and has taken no word before (43_engine.md R285, R288, R290). -/
structure State.Selects (s : State) (n : Nat) : Prop where
  clear : s.fault = false
  size : 1 ≤ n ∧ n ≤ 64
  feasible : n ∉ [1, 3, 8, 15]
  depth : landauOf n ≤ s.cfg.ptDepth
  noneTaken : s.taken = []

variable {s : State} {n : Nat}

theorem State.Selects.two_le (h : s.Selects n) : 2 ≤ n :=
  two_le_of_noVariantA h.size.1 (noVariantA_eq_false_iff.mpr h.feasible)

theorem exec_engGena_of_selects (h : s.Selects n) :
    exec (.engGena n) s = s.selected n (selectA n s.rngQ) := by
  have hsupply : s.supply = s.rngQ := by rw [State.supply, h.noneTaken, List.nil_append]
  refine (exec_of_clear h.clear).trans ((withSize_of_mem h.size).trans
    ((if_neg (by simp [noVariantA_eq_false_iff.mpr h.feasible])).trans ((if_neg h.depth.not_gt).trans ?_)))
  rw [hsupply]
  rfl

/-- Words in front that change nothing for selection are counted in DRAWS and are gone (10_state.md R56). -/
theorem State.selected_append {drawn ws : List Word} (hsel : selectA n (drawn ++ ws) = selectA n ws) :
    ({ s with rngQ := drawn ++ ws } : State).selected n (selectA n (drawn ++ ws)) =
    ({ s with draws := s.draws + BitVec.ofNat 64 drawn.length, rngQ := ws } : State).selected n (selectA n ws) := by
  have hsound : SelectionSound n ws (selectA n ws) := selectLoop_sound n (ws.length + 1) ws
  rw [hsel]
  cases h : selectA n ws with
  | accepted g0 g1 rest =>
    rw [h] at hsound
    obtain ⟨⟨pre, hpre⟩, -⟩ := hsound
    have hrest : rest.length ≤ ws.length := by simp [hpre]
    simp [State.selected, State.drew, Nat.add_sub_assoc hrest, BitVec.ofNat_add, BitVec.add_assoc]
  | starved attempt => simp [State.selected, State.await, BitVec.ofNat_add, BitVec.add_assoc]

/-- A failed attempt at the front of the words on offer (43_engine.md R284). -/
theorem exec_engGena_of_failed_attempt {words : List Word} (h : s.Selects n)
    (hwords : attemptWords n words = words.length) (hpair : attemptPair n words = none) (ws : List Word) :
    exec (.engGena n) { s with rngQ := words ++ ws } =
    exec (.engGena n) { s with draws := s.draws + BitVec.ofNat 64 words.length, rngQ := ws } := by
  have hsel : selectA n (words ++ ws) = selectA n ws := by
    rw [selectA_append_of_attempt h.two_le hwords, hpair, Option.elim_none]
  calc exec (.engGena n) { s with rngQ := words ++ ws }
      = ({ s with rngQ := words ++ ws } : State).selected n (selectA n (words ++ ws)) :=
        exec_engGena_of_selects { h with }
    _ = _ := State.selected_append hsel
    _ = _ := (exec_engGena_of_selects
        (s := { s with draws := s.draws + BitVec.ofNat 64 words.length, rngQ := ws }) { h with }).symm

/-- The words of an accepted attempt at the front of the words on offer (43_engine.md R290). -/
theorem exec_engGena_of_accepted_attempt {words rest : List Word} {g0 g1 : Perm} (h : s.Selects n)
    (hq : s.rngQ = words ++ rest) (hwords : attemptWords n words = words.length)
    (hpair : attemptPair n words = some (g0, g1)) :
    exec (.engGena n) s = .next ((State.loadGenerators
      { s with draws := s.draws + BitVec.ofNat 64 words.length, rngQ := rest } n g0 g1).respond 0 0) := by
  rw [exec_engGena_of_selects h, hq, selectA_append_of_attempt h.two_le hwords, hpair]
  simp [State.selected, State.drew, hq, h.noneTaken]

end Sys2Proof.Machine
end

section

open Sys2Proof Sys2Proof.Machine

/-- Settles O48: the first attempt's words are all of the attempt, and its pair meets the three requirements. -/
theorem generatorSelectionAccepts : Obligations.GeneratorSelectionAccepts := by
  intro s n hf
  refine ⟨wordIs_fields _, fun hn => ?_, fun hvar => ?_, fun h1 h64 hvar => ⟨fun hdepth => ?_,
    fun w0 w1 rest hdepth ht hq hw0 hw1 hg0 hg1 hfix => ?_⟩⟩
  · exact (exec_of_clear hf).trans (withSize_of_not_mem hn)
  · exact (exec_of_clear hf).trans ((withSize_of_mem (by omega)).trans (if_pos (decide_eq_true hvar)))
  · exact (exec_of_clear hf).trans ((withSize_of_mem ⟨h1, h64⟩).trans
      ((if_neg (by simp [noVariantA_eq_false_iff.mpr hvar])).trans (if_pos hdepth)))
  · have hsel : s.Selects n := ⟨hf, ⟨h1, h64⟩, hvar, hdepth, ht⟩
    have h2 := hsel.two_le
    have hexec := exec_engGena_of_accepted_attempt hsel hq (attemptWords_of_order hw0 hw1 hg0)
      (attemptPair_eq_some hw0 hw1 hg0 hg1 hfix)
    have hlen : (w0 ++ w1).length = 2 * n - 3 := by rw [List.length_append]; omega
    obtain ⟨t0, t1, ht0, ht1, hload⟩ := State.loadGenerators_eq
      { s with draws := s.draws + BitVec.ofNat 64 (w0 ++ w1).length, rngQ := rest } n
      (wfPerm_of_perm_range (shuffle_perm n w0 (by omega)) ⟨h1, h64⟩)
      (wfPerm_of_perm_range (shuffleOdd_perm n w1 h2 (by omega)) ⟨h1, h64⟩) hg0 hg1
    refine ⟨t0, t1, ht0, ht1, hexec.trans ?_⟩
    rw [hload, hlen]
    rfl

/-- Settles O49: an attempt that fails is all of its words, w0 at the first requirement and w0, w1 later. -/
theorem generatorSelectionRetries : Obligations.GeneratorSelectionRetries := by
  intro s n w0 w1 ws hf h1 h64 hvar hdepth ht hw0 hw1
  have hsel : s.Selects n := ⟨hf, ⟨h1, h64⟩, hvar, hdepth, ht⟩
  have h2 := hsel.two_le
  refine ⟨fun hg0 => ?_, fun hg0 hfail => ?_⟩
  · rw [← hw0]
    exact exec_engGena_of_failed_attempt hsel (attemptWords_of_not_order hw0 hg0)
      (attemptPair_of_not_order hw0 hg0) ws
  · have hlen : 2 * n - 3 = (w0 ++ w1).length := by rw [List.length_append]; omega
    rw [hlen]
    exact exec_engGena_of_failed_attempt hsel (attemptWords_of_order hw0 hw1 hg0)
      (attemptPair_eq_none hw0 hw1 hfail) ws

/-- Settles O50: the check of both orders stands before the one of PT_DEPTH, and unranking gives permutations. -/
theorem generatorsFromRanks : Obligations.GeneratorsFromRanks := by
  intro s n r1 r2 hf
  refine ⟨wordIs_fields _, fun hn => ?_, ?_⟩
  · exact (exec_of_clear hf).trans (withSize_of_not_mem hn)
  rintro g0 g1 h1 h64 rfl rfl
  refine ⟨exec_engGenb_of_not_orders hf ⟨h1, h64⟩, fun ⟨hg0, hg1⟩ => ?_⟩
  have horders := exec_engGenb_of_orders hf ⟨h1, h64⟩ hg0 hg1
  refine ⟨fun hdepth => horders.trans (if_pos hdepth), fun hdepth => ?_⟩
  obtain ⟨t0, t1, ht0, ht1, hload⟩ := State.loadGenerators_eq s n
    (wfPerm_of_perm_range (fromRank_perm n (s.getBr r1)) ⟨h1, h64⟩)
    (wfPerm_of_perm_range (fromRank_perm n (s.getBr r2)) ⟨h1, h64⟩) hg0 hg1
  refine ⟨t0, t1, ht0, ht1, (horders.trans (if_neg hdepth.not_gt)).trans ?_⟩
  rw [hload]
  rfl

/-- Settles O51: both commands check GENOK first; ENG_SEEDU draws its words before it seeds. -/
theorem seeding : Obligations.Seeding := by
  intro s r1 hf
  refine ⟨wordIs_fields _, wordIs_fields _, fun hgen => ⟨?_, ?_⟩, fun hgen => ?_, fun ws rest hgen ht hq hk => ?_⟩
  · exact (exec_of_clear hf).trans (withGenerators_of_false hgen)
  · exact (exec_of_clear hf).trans (withGenerators_of_false hgen)
  · exact (exec_of_clear hf).trans (withGenerators_of_true hgen)
  · refine (exec_of_clear hf).trans ((withGenerators_of_true hgen).trans ((drawing_of_offer ht hq hk).trans ?_))
    simp [State.reseed, State.respond, ht]

end

section
/-! A seeded engine (43_engine.md R281 to R283; 10_state.md R50): its step and its output are total, the mixer is the
spec's loop. -/

namespace Sys2Proof.Machine

/-- A seeded engine has P, of at most 64 entries, and, at b, a table of a generator of P's size (10_state.md R50). -/
theorem State.Inv.generator_of_seeded {s : State} (h : s.Inv) (hseed : s.seeded = true) :
    ∃ p g q, s.p = some p ∧ p.length ≤ 64 ∧ s.getPt s.b = some g ∧ TableOf g q ∧ q.length = p.length := by
  obtain ⟨hgen, p, hp, hlen⟩ := h.seededP hseed
  obtain ⟨⟨-, h64⟩, htables⟩ := h.genokTables hgen
  obtain ⟨g, hg, hgn, -⟩ := htables s.b
  obtain ⟨⟨q, hq⟩, -⟩ := h.ptValid s.b g hg
  have ⟨_, hqn, _⟩ := hq
  exact ⟨p, g, q, hp, by omega, hg, hq, by omega⟩

/-- step() reads q^e, e = D[t] mod k, from the table of q (43_engine.md R281). -/
theorem State.engineStep_of_table {s : State} {p q : Perm} {g : PowerTable} (hp : s.p = some p)
    (hg : s.getPt s.b = some g) (hq : TableOf g q) :
    s.engineStep =
      some { s with p := some (compose p (permPow q (s.d[s.t.val].toNat % g.k))), b := 1 - s.b } := by
  have ⟨_, _, ⟨hk, _⟩, _⟩ := hq
  have hflip : ∀ b : Fin 2, b + 1 = 1 - b := by decide
  exact State.engineStep_eq_some.mpr ⟨p, g, _, hp, hg, hq.getElem?_of_lt (Nat.mod_lt _ hk), by rw [hflip]; rfl⟩

/-- The mixer is the loop of 43_engine.md R282 for every P that KEY is long enough for. -/
theorem mix_eq_mixSum (c : Config) {p : Perm} (hp : p.length ≤ 64) : mix c p = mixSum c p := by
  have hterms : List.zipWith (fun x k => BitVec.ofNat 64 x * k) p c.key.toList =
      (List.range p.length).map fun i => BitVec.ofNat 64 (p.getD i 0) * c.key.toList.getD i 0 := by
    refine List.ext_getElem (by simpa using hp) fun i hi _ => ?_
    simp only [List.length_zipWith, Vector.length_toList, lt_inf_iff] at hi
    simp [List.getD_eq_getElem?_getD, hi.1, hi.2]
  rw [mix, mixSum, hterms, List.foldl_map]

/-- The tail after a write of the delay line is not the word just written (43_engine.md R283). -/
theorem State.pushDelay_tail (s : State) (num : Word) : (s.pushDelay num).d[(s.t + 1).val] = s.d[(s.t + 1).val] := by
  have hne : ∀ t : Fin 32, t.val ≠ (t + 1).val := by decide
  exact Vector.getElem_set_ne s.t.isLt (s.t + 1).isLt (hne s.t)

/-- rand() after a step that leaves P = p (43_engine.md R283). -/
theorem State.engineRand_of_step {s s1 : State} {p : Perm} (hstep : s.engineStep = some s1) (hp : s1.p = some p)
    (hsize : p.length ≤ 64) :
    s.engineRand =
      some (s1.pushDelay (mixSum s1.cfg p), mixSum s1.cfg p ^^^ s1.d[(s1.t + 1).val]) := by
  refine State.engineRand_eq_some.mpr ⟨s1, p, hstep, hp, ?_⟩
  rw [State.pushDelay_tail, mix_eq_mixSum _ hsize]

end Sys2Proof.Machine
end

section

open Sys2Proof Sys2Proof.Machine

/-- Settles O52: the invariant gives P and the table at b, from which the step reads a power of the generator. -/
theorem engineStepAndRand : Obligations.EngineStepAndRand := by
  intro s hinv hf
  refine ⟨wordIs_fields _, wordIs_fields _, fun hseed => ⟨?_, ?_⟩, fun hseed => ?_⟩
  · exact (exec_of_clear hf).trans (withSeeded_of_false hseed)
  · exact (exec_of_clear hf).trans (withSeeded_of_false hseed)
  · obtain ⟨p, g, q, hp, hsize, hg, hq, hlen⟩ := hinv.generator_of_seeded hseed
    have hstep := State.engineStep_of_table hp hg hq
    refine ⟨p, g, q, _, _, hp, hg, hq, hlen, rfl, rfl, ?_, ?_⟩
    · refine (exec_of_clear hf).trans ((withSeeded_orBroken_of_some hseed hstep).trans ?_)
      rfl
    · have hrand := State.engineRand_of_step hstep rfl (by simpa using hsize)
      refine (exec_of_clear hf).trans ((withSeeded_orBroken_of_some hseed hrand).trans ?_)
      rfl

/-- Settles O53: a seeded engine has P, on which the mixer is the loop of R282. -/
theorem engineReads : Obligations.EngineReads := by
  intro s rd hinv hf
  refine ⟨wordIs_fields _, wordIs_fields _, fun hseed => ⟨?_, ?_⟩, fun hseed => ?_,
    fun j => ⟨wordIs_fields _, fun hj => ?_⟩, fun j => ?_⟩
  · exact (exec_of_clear hf).trans (withSeeded_of_false hseed)
  · exact (exec_of_clear hf).trans (withSeeded_of_false hseed)
  · obtain ⟨p, -, -, hp, hsize, -⟩ := hinv.generator_of_seeded hseed
    refine ⟨p, hp, ?_, ?_⟩
    · rw [← mix_eq_mixSum s.cfg hsize]
      refine (exec_of_clear hf).trans ((withSeeded_orBroken_of_some hseed hp).trans ?_)
      rfl
    · refine (exec_of_clear hf).trans ((withSeeded_orBroken_of_some hseed hp).trans ?_)
      rfl
  · exact (exec_of_clear hf).trans (dif_neg (not_lt.mpr hj))
  · exact (exec_of_clear hf).trans (dif_pos j.isLt)

end

section
/-! The control commands (44_control.md R330 to R333): the answer of CTL_RDCSR for each CSR, and the values a reset
leaves. -/

namespace Sys2Proof.Machine

/-- N_ENG is at most 64, with or without generators (10_state.md R50). -/
theorem State.Inv.nEng_le {s : State} (h : s.Inv) : s.nEng ≤ 64 := by
  cases hgen : s.genok with
  | false =>
    obtain ⟨hzero, -⟩ := h.noGenerators hgen
    omega
  | true =>
    obtain ⟨⟨-, hle⟩, -⟩ := h.genokTables hgen
    exact hle

/-! The CSRs as numbers (10_state.md R53, R54, R57). -/

theorem csrCfg_toNat {c : Config} (h : c.Wf) :
    (csrCfg c).toNat = c.bigLimbs + 8 * 2 ^ 8 + 8 * 2 ^ 16 + 32 * 2 ^ 24 + c.ptDepth * 2 ^ 32 := by
  obtain ⟨⟨-, hlimbs⟩, ⟨-, hdepth⟩, -⟩ := h
  simp only [csrCfg, toNat_append_add, BitVec.toNat_ofNat]
  omega

theorem csrStatus_toNat (s : State) :
    (csrStatus s).toNat = s.fault.toNat + 2 * s.genok.toNat + 4 * s.seeded.toNat := by
  have hfault := s.fault.toNat_lt
  have hgenok := s.genok.toNat_lt
  have hseeded := s.seeded.toNat_lt
  simp only [csrStatus, BitVec.toNat_setWidth, toNat_append_add, BitVec.toNat_ofBool]
  omega

theorem csrEngstate_toNat {s : State} (h : s.nEng ≤ 64) :
    (csrEngstate s).toNat = s.nEng + s.t.val * 2 ^ 8 + s.b.val * 2 ^ 16 := by
  have ht := s.t.isLt
  have hb := s.b.isLt
  simp only [csrEngstate, BitVec.toNat_setWidth, toNat_append_add, BitVec.toNat_ofNat]
  omega

/-! CTL_RDCSR (44_control.md R331): the numbers of the CSRs, and the command's two outcomes. -/

theorem exists_readCsr_of_le (s : State) {c : Nat} (h : c ≤ 5) : ∃ v, readCsr s c = some v := by
  interval_cases c <;> exact ⟨_, rfl⟩

theorem readCsr_of_reserved (s : State) {c : Nat} (h : 5 < c) : readCsr s c = none := by
  obtain ⟨k, rfl⟩ : ∃ k, c = k + 6 := Nat.exists_eq_add_of_le' h
  rfl

theorem exec_ctlRdcsr_of_some {s : State} {c : Nat} {v : Word} (h : readCsr s c = some v) :
    exec (.ctlRdcsr c) s = .next (s.respond 0 v) := by
  simp [exec, execCtlRdcsr, h]

theorem exec_ctlRdcsr_of_none {s : State} {c : Nat} (h : readCsr s c = none) :
    exec (.ctlRdcsr c) s = .next (s.faultEntry Opcode.ctlRdcsr.code .badCsr) := by
  simp [exec, execCtlRdcsr, h]

/-! Reset (10_state.md R66; 70_reset_and_hazards.md R401, R403). -/

theorem resetValues_blockReset (s : State) : ResetValues s.blockReset := by
  refine ⟨fun r => ?_, fun r => ?_, fun x => ?_, fun u => ?_, rfl, rfl, rfl, rfl, rfl, rfl, rfl, rfl, rfl, rfl, rfl, rfl⟩
  · simp [State.getBr]
  · simp [State.getPr]
  · simp
  · simp [State.getPt]

/-- The response channel is the one piece of state `ResetValues` does not name. -/
theorem resetValues_respond {s : State} (h : ResetValues s) (status : Byte) (v : Word) :
    ResetValues (s.respond status v) := h

theorem step_of_reset {s : State} (h : s.rstN = false) : step s = .next s.blockReset := by
  simp [step, State.transaction, h]

/-- CTL_NOP has one word, whatever DATA comes with it (44_control.md R330). -/
theorem decode_eq_ctlNop_iff (w : CmdWord) (data : Word) : decode w data = .ok .ctlNop ↔ w = 0 := by
  constructor
  · exact fun h => (encode_word_of_decode h).symm
  · rintro rfl
    rfl

end Sys2Proof.Machine
end

section

open Sys2Proof Sys2Proof.Machine

/-- Settles O20: the numbers up to 5 are those of CSRs, each of whose words is read field by field; the invariant bounds
the sizes that have to fit their fields. -/
theorem readCsr : Obligations.ReadCsr := by
  intro s hinv
  refine ⟨fun c => wordIs_fields _, fun c hc => exec_ctlRdcsr_of_none (readCsr_of_reserved s hc), fun c hc => ?_⟩
  obtain ⟨v, hv⟩ := exists_readCsr_of_le s hc
  refine ⟨v, exec_ctlRdcsr_of_some hv, ?id, ?cfg, ?status, ?errinfo, ?draws, ?engstate⟩ <;> rintro rfl <;> cases hv
  case id => rfl
  case cfg => exact csrCfg_toNat hinv.cfgWf
  case status => exact csrStatus_toNat s
  case errinfo => rfl
  case draws => rfl
  case engstate => exact csrEngstate_toNat hinv.nEng_le

/-- Settles O5: nine of the words are the encoder's, DATA included; CTL_NOP ignores its DATA. -/
theorem specWordsDecode : Obligations.SpecWordsDecode :=
  ⟨decodeOfEncode (.bigAdd 2 0 1) rfl, decodeOfEncode (.bigLdi 0 0x99999) rfl, decodeOfEncode (.permFromrank 1 0 5) rfl,
    decodeOfEncode (.ptFetch 2 1 5) rfl, decodeOfEncode (.engGenb 32 1 2) rfl, decodeOfEncode (.ctlRdcsr 2) rfl,
    (decode_eq_ctlNop_iff 0 7).mpr rfl, decodeOfEncode (.bigDiv 0 1 2) rfl, decodeOfEncode (.engSeedr 3) rfl,
    decodeOfEncode .engRand rfl⟩

/-- Settles O19: CTL_SRESET answers from the state the reset pin gives. -/
theorem controlCommands : Obligations.ControlCommands := by
  refine ⟨wordIs_fields _, wordIs_fields _, wordIs_fields _, decode_eq_ctlNop_iff, fun s => ⟨rfl, rfl, ?_⟩⟩
  exact ⟨s.blockReset.respond 0 0, rfl, resetValues_respond (resetValues_blockReset s) 0 0, rfl, rfl, step_of_reset rfl⟩

end

section
/-! The command's checks in the order of 60_exceptions.md R358, said once for all commands: `exec_checked`. A command
runs through its checks; the first that fails ends it with its fault entry, and behind the last it finishes. The
statements on all commands are then inductions over the list of checks. -/

namespace Sys2Proof.Machine

/-- The command has completed with status 0, or it is a drawing command that waits for words (60_exceptions.md R350;
70_reset_and_hazards.md R416). -/
def Finished (i : Instr) (s t : State) : Prop :=
  (∃ v, t.rsp = some ⟨0, v⟩ ∧ t.pending = none) ∨ (isDrawing i = true ∧ t.rsp = s.rsp ∧ t.pending = some i)

/-- On a block whose data keep the invariant and with no other command in it, this outcome finishes the command. -/
def Passes (i : Instr) (s : State) (o : Out) : Prop :=
  s.DataInv → s.pending = none → ∃ t, o = .next t ∧ Finished i s t

/-- The outcome of a command that still has these checks to pass (60_exceptions.md R357, R358). -/
inductive Checked (i : Instr) (s : State) : List (Cause × Prop) → Out → Prop
  | passed {o : Out} (h : Passes i s o) : Checked i s [] o
  | check {c : Cause} {P : Prop} {rest : List (Cause × Prop)} {o : Out}
      (hfail : P → o = .next (s.faultEntry i.opcode.code c)) (hpass : ¬P → Checked i s rest o) :
      Checked i s ((c, P) :: rest) o

variable {i : Instr} {s : State}

/-! What follows from the form. -/

/-- The first check that fails is the fault. -/
theorem Checked.faults {pre post : List (Cause × Prop)} {c : Cause} {P : Prop} {o : Out}
    (h : Checked i s (pre ++ (c, P) :: post) o) (hpre : ∀ x ∈ pre, ¬x.2) (hP : P) :
    o = .next (s.faultEntry i.opcode.code c) := by
  induction pre with
  | nil =>
    cases h with
    | check hfail _ => exact hfail hP
  | cons x pre ih =>
    obtain ⟨hx, hrest⟩ := List.forall_mem_cons.mp hpre
    cases h with
    | check _ hpass => exact ih (hpass hx) hrest

/-- With no check that fails the command finishes. -/
theorem Checked.passes {cs : List (Cause × Prop)} {o : Out} (h : Checked i s cs o) (hcs : ∀ x ∈ cs, ¬x.2) :
    Passes i s o := by
  induction h with
  | passed h => exact h
  | check _ _ ih =>
    obtain ⟨hP, hrest⟩ := List.forall_mem_cons.mp hcs
    exact ih hP hrest

/-- Whichever check fails, if any, there is a next state. -/
theorem Checked.exists_next {cs : List (Cause × Prop)} {o : Out} (h : Checked i s cs o) (hs : s.DataInv)
    (hp : s.pending = none) : ∃ t, o = .next t := by
  induction h with
  | passed h =>
    obtain ⟨t, ht, -⟩ := h hs hp
    exact ⟨t, ht⟩
  | @check c P _ _ hfail _ ih =>
    by_cases hP : P
    · exact ⟨_, hfail hP⟩
    · exact ih hP

/-! The outcomes behind the last check. -/

theorem Passes.answer {t : State} {v : Word} (ht : s.pending = none → t.pending = none := by exact id) :
    Passes i s (answer v t) :=
  fun _ hp => ⟨_, rfl, .inl ⟨v, rfl, ht hp⟩⟩

theorem Passes.await {kept : List Word} (hi : isDrawing i = true := by rfl) : Passes i s (.next (s.await i kept)) :=
  fun _ _ => ⟨_, rfl, .inr ⟨hi, rfl, rfl⟩⟩

/-- A fixed number of draws: the command waits, or goes on with what it writes. -/
theorem Passes.drawing {k : Nat} {write : List Word → State → State}
    (hw : ∀ ws t, (write ws t).pending = t.pending := by exact fun _ _ => rfl) (hi : isDrawing i = true := by rfl) :
    Passes i s (drawing i k s fun ws t => done (write ws t)) := by
  unfold Machine.drawing
  split
  · exact .await hi
  · exact .answer fun hp => (hw _ _).trans hp

/-- A value that a block with the invariant has (10_state.md R50; log 13). -/
theorem Passes.orBroken {α : Type} {x : Option α} {k : α → Out} (hx : s.DataInv → ∃ a, x = some a)
    (hk : ∀ a, x = some a → Passes i s (k a)) : Passes i s (orBroken x k) := by
  intro hs hp
  obtain ⟨a, rfl⟩ := hx hs
  exact hk a rfl hs hp

/-! The checks: an operand form is the first check of the list, and what follows it has the others. -/

namespace Checked

variable {cs : List (Cause × Prop)} {c : Cause} {P : Prop} {k : Out}

/-- A command without checks that draws nothing. -/
theorem completes {t : State} {v : Word} (ht : s.pending = none → t.pending = none := by exact id) :
    Checked i s [] (answer v t) :=
  .passed (.answer ht)

/-- A command that may execute is past FaultPending (60_exceptions.md R355). -/
theorem unlessFault (hexec : s.fault = false ∨ isControl i = true) (hk : Checked i s cs k)
    (hi : isControl i = false := by rfl) : Checked i s cs (unlessFault s k) := by
  rwa [unlessFault_clear k (hexec.resolve_right (by simp [hi]))]

/-- A check of the model that tests Q, where the spec's table words its failure as P. -/
theorem ensure {Q : Prop} [Decidable Q] (hP : P ↔ ¬Q) (hk : Q → Checked i s cs k) :
    Checked i s ((c, P) :: cs) (if Q then k else raise i.opcode c s) := by
  refine .check (fun h => if_neg (hP.mp h)) fun h => ?_
  have hQ : Q := not_not.mp (mt hP.mpr h)
  rw [if_pos hQ]
  exact hk hQ

/-- The same check, with the fault written first. -/
theorem reject {Q : Prop} [Decidable Q] (hP : P ↔ Q) (hk : ¬Q → Checked i s cs k) :
    Checked i s ((c, P) :: cs) (if Q then raise i.opcode c s else k) := by
  rw [← ite_not]
  exact ensure (hP.trans not_not.symm) hk

theorem withSize {n : Nat} (hk : 1 ≤ n ∧ n ≤ 64 → Checked i s cs k) :
    Checked i s ((.badN, n < 1 ∨ 64 < n) :: cs) (withSize i.opcode n s k) :=
  ensure (by omega) hk

theorem withIndex {idx lim : Nat} (hP : P ↔ lim ≤ idx) (hk : idx < lim → Checked i s cs k) :
    Checked i s ((.indexRange, P) :: cs) (withIndex i.opcode idx lim s k) :=
  ensure (hP.trans not_lt.symm) hk

theorem withPerm {r : PReg} {k : Perm → Out} (hk : ∀ p, s.getPr r = some p → Checked i s cs (k p)) :
    Checked i s ((.emptyOperand, s.getPr r = none) :: cs) (withPerm i.opcode r s k) := by
  refine .check withPerm_of_none fun h => ?_
  obtain ⟨p, hp⟩ := Option.ne_none_iff_exists'.mp h
  rw [withPerm_of_some hp]
  exact hk p hp

theorem withPerms {r1 r2 : PReg} {k : Perm → Perm → Out}
    (hk : ∀ p q, s.getPr r1 = some p → s.getPr r2 = some q → Checked i s cs (k p q)) :
    Checked i s ((.emptyOperand, s.getPr r1 = none) :: (.emptyOperand, s.getPr r2 = none) :: cs)
      (withPerms i.opcode r1 r2 s k) :=
  withPerm fun p hp => withPerm fun q hq => hk p q hp hq

theorem withTable {u : PtUnit} {k : PowerTable → Out} (hk : ∀ g, s.getPt u = some g → Checked i s cs (k g)) :
    Checked i s ((.emptyOperand, s.getPt u = none) :: cs) (withTable i.opcode u s k) := by
  refine .check withTable_of_none fun h => ?_
  obtain ⟨g, hg⟩ := Option.ne_none_iff_exists'.mp h
  rw [withTable_of_some hg]
  exact hk g hg

/-- The sizes that the command's two operands have. -/
theorem withEqualSizes {n1 n2 : Nat} {x1 x2 : Option Nat} (h1 : x1 = some n1) (h2 : x2 = some n2)
    (hk : Checked i s cs k) : Checked i s ((.sizeMismatch, x1 ≠ x2) :: cs) (withEqualSizes i.opcode n1 n2 s k) :=
  ensure (by simp [h1, h2]) fun _ => hk

/-- The index is the last check; a unit of a block with the invariant has the entry (10_state.md R41). -/
theorem withEntry {u : PtUnit} {g : PowerTable} {e : Nat} {k : Perm → Out} (hg : s.getPt u = some g)
    (hk : ∀ x, Passes i s (k x)) :
    Checked i s [(.ptIndex, ∃ g, s.getPt u = some g ∧ g.k ≤ e)] (withEntry i.opcode g e s k) := by
  refine .check (fun ⟨g', hg', hle⟩ => ?_) fun h => .passed fun hs hp => ?_
  · obtain rfl : g = g' := Option.some.inj (hg.symm.trans hg')
    exact withEntry_of_le hle
  · have hlt : e < g.k := not_le.mp fun hle => h ⟨g, hg, hle⟩
    obtain ⟨⟨p, hp'⟩, -⟩ := hs.ptValid u g hg
    rw [withEntry_of_lt hp' hlt]
    exact hk _ hs hp

theorem withGenerators (hk : Checked i s cs k) :
    Checked i s ((.noGenerators, s.genok = false) :: cs) (withGenerators i.opcode s k) :=
  ensure (by simp) fun _ => hk

theorem withSeeded (hk : s.seeded = true → Checked i s cs k) :
    Checked i s ((.notSeeded, s.seeded = false) :: cs) (withSeeded i.opcode s k) :=
  ensure (by simp) hk

/-- CAPACITY is the last check of a command that writes a BigUInt result (40_biguint.md R151). -/
theorem writeBig {r : BReg} {v : Nat} (hP : P ↔ 2 ^ (32 * s.cfg.bigLimbs) ≤ v) :
    Checked i s [(.capacity, P)] (writeBig i.opcode r v s) :=
  ensure (by rw [hP, State.cap_eq, not_lt]) fun _ => completes

end Checked

end Sys2Proof.Machine
end

section
/-! The checks of each command (60_exceptions.md R358): the conditions of `checks` are those its operand forms test. -/

namespace Sys2Proof.Machine

variable {s : State}

theorem hexLen_le_iff {v k : Nat} : hexLen v ≤ k ↔ 1 ≤ k ∧ v < 16 ^ k := by
  obtain ⟨hpos, hhigh, hlow⟩ := isLength_hexLen v
  refine ⟨fun hle => ⟨hpos.trans hle, hhigh.trans_le (Nat.pow_le_pow_right (by decide) hle)⟩, fun ⟨hk, hlt⟩ => ?_⟩
  by_contra hgt
  have hpow : 16 ^ k ≤ 16 ^ (hexLen v - 1) := Nat.pow_le_pow_right (by decide) (by omega)
  have := hlow (by omega)
  omega

theorem IsHexCode.unique {c : Word} {d d' : Nat} (h : IsHexCode c d) (h' : IsHexCode c d') : d = d' :=
  Option.some.inj (h.hexValue?_eq.symm.trans h'.hexValue?_eq)

/-- No order is found exactly when there is none within the bound (42_powertable.md R252). -/
theorem orderUpTo_eq_none_iff {p : Perm} {bound : Nat} :
    orderUpTo bound p = none ↔ ∀ k, k ≤ bound → ¬IsOrder p k := by
  simp only [Option.eq_none_iff_forall_ne_some, ne_eq, orderUpTo_eq_some_iff, not_and']

theorem isBijection_stagedImage_iff {buf : Vector Byte 64} {n : Nat} (hn : 1 ≤ n ∧ n ≤ 64) :
    isBijection (stagedImage buf n) = true ↔ WfPerm (stagedImage buf n) := by
  rw [isBijection_iff, WfPerm, stagedImage_length buf hn.2, and_iff_right hn]

/-- A seeded engine has P and a table at b, even while a command waits. -/
theorem State.DataInv.generator_of_seeded {s : State} (h : s.DataInv) (hseed : s.seeded = true) :
    ∃ p g q, s.p = some p ∧ p.length ≤ 64 ∧ s.getPt s.b = some g ∧ TableOf g q ∧ q.length = p.length := by
  have hinv : State.Inv { s with pending := none, taken := [] } :=
    State.inv_iff.mpr ⟨{ h with }, .of_none rfl rfl⟩
  exact hinv.generator_of_seeded hseed

/-- step() of a seeded engine is total (43_engine.md R281). -/
theorem State.DataInv.exists_engineStep (h : s.DataInv) (hseed : s.seeded = true) : ∃ t, s.engineStep = some t := by
  obtain ⟨p, g, q, hp, -, hg, hq, -⟩ := h.generator_of_seeded hseed
  exact ⟨_, State.engineStep_of_table hp hg hq⟩

/-- rand() of a seeded engine is total (43_engine.md R283). -/
theorem State.DataInv.exists_engineRand (h : s.DataInv) (hseed : s.seeded = true) : ∃ r, s.engineRand = some r := by
  obtain ⟨t, ht⟩ := h.exists_engineStep hseed
  obtain ⟨p, g, x, -, -, -, rfl⟩ := State.engineStep_eq_some.mp ht
  exact ⟨_, State.engineRand_eq_some.mpr ⟨_, _, ht, rfl, rfl⟩⟩

theorem State.DataInv.exists_p (h : s.DataInv) (hseed : s.seeded = true) : ∃ p, s.p = some p := by
  obtain ⟨p, -, -, hp, -⟩ := h.generator_of_seeded hseed
  exact ⟨p, hp⟩

theorem engineStep_pending {t : State} (h : s.engineStep = some t) : t.pending = s.pending := by
  obtain ⟨p', b', rfl⟩ := engineStep_update h
  rfl

/-- The command, where it may execute, goes through the checks that the spec's table gives it. -/
def ChecksInOrder (i : Instr) (s : State) : Prop :=
  s.fault = false ∨ isControl i = true → Checked i s (checks s i) (exec i s)

theorem ctlRdcsr_checked (c : Nat) : ChecksInOrder (.ctlRdcsr c) s := by
  refine fun _ => .check (fun h => exec_ctlRdcsr_of_none (readCsr_of_reserved s h)) fun h => ?_
  obtain ⟨v, hv⟩ := exists_readCsr_of_le s (not_lt.mp h)
  rw [exec_ctlRdcsr_of_some hv]
  exact .completes

theorem bigHexin_checked (rd : BReg) (data : Word) : ChecksInOrder (.bigHexin rd data) s := by
  intro hexec
  have hf : s.fault = false := hexec.resolve_right nofun
  refine .check (exec_bigHexin_of_not_isHexCode hf) fun h => ?_
  obtain ⟨d, hd⟩ := not_not.mp h
  rw [exec_bigHexin_of_isHexCode hf hd]
  exact .writeBig ⟨fun ⟨d', hd', hle⟩ => hd.unique hd' ▸ hle, fun hle => ⟨d, hd, hle⟩⟩

theorem permSize_checked (r1 : PReg) : ChecksInOrder (.permSize r1) s := by
  refine fun hexec => .unlessFault hexec ?_
  split <;> exact .completes

theorem ptInit_checked (u : PtUnit) (r1 : PReg) : ChecksInOrder (.ptInit u r1) s := by
  intro hexec
  have hf : s.fault = false := hexec.resolve_right nofun
  refine .check (fun h => (exec_of_clear hf).trans (withPerm_of_none h)) fun h => ?_
  obtain ⟨p, hp⟩ := Option.ne_none_iff_exists'.mp h
  cases hk : orderUpTo s.cfg.ptDepth p with
  | none =>
    exact .check (fun _ => exec_ptInit_of_no_order hf hp hk) fun hno =>
      absurd ⟨p, hp, orderUpTo_eq_none_iff.mp hk⟩ hno
  | some k =>
    refine .check (fun ⟨q, hq, hno⟩ => ?_) fun _ => ?_
    · obtain rfl : p = q := Option.some.inj (hp.symm.trans hq)
      cases hk.symm.trans (orderUpTo_eq_none_iff.mpr hno)
    · rw [exec_ptInit_of_order hf hp hk]
      exact .completes (t := (s.setPt u (ptBuild p k)).dropGenerators)

theorem engGena_checked (n : Nat) : ChecksInOrder (.engGena n) s := by
  refine fun hexec => .unlessFault hexec (.withSize fun _ => .reject (by simp [noVariantA]) fun _ =>
    .reject Iff.rfl fun _ => .passed ?_)
  split
  · exact .answer
  · exact .await

theorem engGenb_checked (n : Nat) (r1 r2 : BReg) : ChecksInOrder (.engGenb n r1 r2) s := by
  refine fun hexec => .unlessFault hexec (.withSize fun _ => .ensure ?_ fun _ => .reject Iff.rfl fun _ => .completes)
  rw [Bool.and_eq_true, hasLandauOrder_iff, hasLandauOrder_iff]

theorem engRand_checked : ChecksInOrder .engRand s := by
  refine fun hexec => .unlessFault hexec (.withSeeded fun hseed => .passed (.orBroken
    (fun hs => hs.exists_engineRand hseed) fun r hr => .answer ?_))
  obtain ⟨s1, p, hstep, -, rfl⟩ := State.engineRand_eq_some.mp hr
  exact (engineStep_pending hstep).trans

theorem engGetd_checked (j : Nat) : ChecksInOrder (.engGetd j) s := by
  intro hexec
  have hf : s.fault = false := hexec.resolve_right nofun
  refine .check (fun h => (exec_of_clear hf).trans (dif_neg (not_lt.mpr h))) fun h => ?_
  rw [(exec_of_clear hf).trans (dif_pos (Nat.lt_succ_of_le (not_lt.mp h)))]
  exact .completes

/-- Every command that may execute makes its checks in the order of the spec's table. -/
theorem exec_checked (i : Instr) (s : State) : ChecksInOrder i s := by
  cases i with
  | ctlNop | ctlClrerr => exact fun _ => .completes
  | ctlSreset => exact fun _ => .completes fun _ => rfl
  | ctlRdcsr imm => exact ctlRdcsr_checked imm
  | bigLdi | bigMov | bigSub | bigShr | bigAnd | bigOr | bigCmp | bigBitcnt | bigTrunc32 | bigTrunc64 | bigNlimbs
  | bigHexlen => exact fun h => .unlessFault h .completes
  | bigLdlimb | bigGetlimb => exact fun h => .unlessFault h (.withIndex Iff.rfl fun _ => .completes)
  | bigHexdig => exact fun h => .unlessFault h (.withIndex hexLen_le_iff.symm fun _ => .completes)
  | bigHexin rd data => exact bigHexin_checked rd data
  | bigAdd | bigMul => exact fun h => .unlessFault h (.writeBig Iff.rfl)
  | bigShl => exact fun h => .unlessFault h (.reject shlOverflows_iff.symm fun _ => .completes)
  | bigDiv | bigRem => exact fun h => .unlessFault h (.reject Iff.rfl fun _ => .completes)
  | permId | permFromrank => exact fun h => .unlessFault h (.withSize fun _ => .completes)
  | permShuf => exact fun h => .unlessFault h (.withSize fun _ => .passed .drawing)
  | permShufodd => exact fun h => .unlessFault h (.withSize fun _ => .reject Iff.rfl fun _ => .passed .drawing)
  | permFromimg =>
    exact fun h => .unlessFault h (.withSize fun hn =>
      .ensure (not_congr (isBijection_stagedImage_iff hn).symm) fun _ => .completes)
  | permRank | permMov | permIsid => exact fun h => .unlessFault h (.withPerm fun _ _ => .completes)
  | permEq => exact fun h => .unlessFault h (.withPerms fun _ _ _ _ => .completes)
  | permLdimg =>
    exact fun h => .unlessFault h (.withIndex Iff.rfl fun _ => .completes (State.setImg_pending s _).trans)
  | permGetimg => exact fun h => .unlessFault h (.withIndex Iff.rfl fun _ => .withPerm fun _ _ => .completes)
  | permSize rs1 => exact permSize_checked rs1
  | permMul | permSharefix =>
    exact fun h => .unlessFault h (.withPerms fun _ _ hp hq =>
      .withEqualSizes (congrArg (Option.map List.length) hp) (congrArg (Option.map List.length) hq) .completes)
  | ptInit u rs1 => exact ptInit_checked u rs1
  | ptOrder => exact fun h => .unlessFault h (.withTable fun _ _ => .completes)
  | ptFetch => exact fun h => .unlessFault h (.withTable fun _ hg => .withEntry hg fun _ => .answer)
  | ptMulpow =>
    exact fun h => .unlessFault h (.withPerm fun _ hp => .withTable fun _ hg =>
      .withEqualSizes (congrArg (Option.map List.length) hp) (congrArg (Option.map PowerTable.n) hg)
        (.withEntry hg fun _ => .answer))
  | landau => exact fun h => .unlessFault h (.ensure not_le.symm fun _ => .completes)
  | engGena imm => exact engGena_checked imm
  | engGenb imm rs1 rs2 => exact engGenb_checked imm rs1 rs2
  | engSeedr => exact fun h => .unlessFault h (.withGenerators .completes)
  | engSeedu => exact fun h => .unlessFault h (.withGenerators (.passed .drawing))
  | engStep =>
    exact fun h => .unlessFault h (.withSeeded fun hseed => .passed (.orBroken
      (fun hs => hs.exists_engineStep hseed) fun _ ht => .answer (engineStep_pending ht).trans))
  | engRand => exact engRand_checked
  | engMix | engGetp =>
    exact fun h => .unlessFault h (.withSeeded fun hseed => .passed (.orBroken
      (fun hs => hs.exists_p hseed) fun _ _ => .answer))
  | engGetd imm => exact engGetd_checked imm

end Sys2Proof.Machine
end

section
/-! FaultPending (60_exceptions.md R355), and the next state of every command and of every step. -/

namespace Sys2Proof.Machine

theorem isControl_iff {i : Instr} :
    isControl i = true ↔ i.opcode ∈ [.ctlNop, .ctlRdcsr, .ctlClrerr, .ctlSreset] := by
  cases i <;> simp [isControl, Instr.opcode]

/-- While FAULT = 1 every command but the four of the control group answers FaultPending. -/
theorem exec_of_latched {i : Instr} {s : State} (hi : isControl i = false) (hf : s.fault = true) :
    exec i s = .next (s.respond 4 s.errinfo) := by
  cases i with
  | ctlNop | ctlRdcsr | ctlClrerr | ctlSreset => cases hi
  | _ => exact unlessFault_latched _ hf

/-- No command stops. -/
theorem exists_exec_next (i : Instr) {s : State} (hs : s.DataInv) (hp : s.pending = none) :
    ∃ t, exec i s = .next t := by
  by_cases h : s.fault = false ∨ isControl i = true
  · exact (exec_checked i s h).exists_next hs hp
  · obtain ⟨hf, hi⟩ := not_or.mp h
    exact ⟨_, exec_of_latched (by simpa using hi) (by simpa using hf)⟩

theorem step_of_response {s : State} {r : Response} (hrst : s.rstN = true) (hr : s.rsp = some r) :
    step s = .next (if s.rspReady then { s with rsp := none } else s) := by
  simp [step, State.transaction, hrst, hr]

/-- No step stops: each transaction settles the block or executes a command. -/
theorem exists_step_next {s : State} (hs : s.DataInv) : ∃ t, step s = .next t := by
  obtain ⟨haccepted, hresumed, hidle⟩ := stepRunsTheDecodedInstruction
  cases hrst : s.rstN with
  | false => exact ⟨_, step_of_reset hrst⟩
  | true =>
    cases hrsp : s.rsp with
    | some r => exact ⟨_, step_of_response hrst hrsp⟩
    | none =>
      cases hpend : s.pending with
      | some i =>
        rw [hresumed s i hrst hrsp hpend]
        exact exists_exec_next i { hs with } rfl
      | none =>
        cases hq : s.cmdQ with
        | nil => exact ⟨s, hidle s hrst hrsp hpend hq⟩
        | cons c q =>
          have hacc : Accepts s c q := ⟨hrst, hrsp, hpend, hq⟩
          cases hdec : decode c.word c.data with
          | error e => exact ⟨_, step_of_decode_error hacc hdec⟩
          | ok i =>
            rw [haccepted s c q i hacc hdec]
            exact exists_exec_next i { hs with } hpend

/-- What the response of a command tells of its next state: status 0, or FaultPending, or the fault entry of a command
that had not waited (60_exceptions.md R351, R355, R356). -/
theorem Effect.response_cases {i : Instr} {s t : State} {r : Response} (h : Effect i s t) (hs : s.rsp = none)
    (ht : t.rsp = some r) :
    r.status = 0 ∨ (s.fault = true ∧ r = ⟨4, s.errinfo⟩ ∧ t = s.respond 4 s.errinfo) ∨
    (¬CanWait s i ∧ ∃ c : Cause, r = ⟨c.code, faultInfo i.opcode.code c⟩ ∧ t = s.faultEntry i.opcode.code c) := by
  cases h with
  | faulted c hi => exact .inr (.inr ⟨hi, c, (Option.some.inj ht).symm, rfl⟩)
  | faultPending hf => exact .inr (.inl ⟨hf, (Option.some.inj ht).symm, rfl⟩)
  | completed s' t v => exact .inl (congrArg Response.status (Option.some.inj ht).symm)
  | waits => cases hs.symm.trans ht
  | reset => exact .inl (congrArg Response.status (Option.some.inj ht).symm)

/-- A fault entry behind the acceptance of a command: FAULT and ERRINFO change, and the command is gone
(60_exceptions.md R356, R360). -/
theorem faultEntry_precise (s : State) (q : List Command) (opc : Byte) (c : Cause) :
    (c.code = 1 ∨ c.code = 2 ∨ c.code = 3) ∧ State.faultEntry { s with cmdQ := q } opc c =
      { s with
        cmdQ := q, fault := true, errinfo := if s.fault then s.errinfo else faultInfo opc c
        rsp := some ⟨c.code, faultInfo opc c⟩ } :=
  ⟨c.code_cases, State.faultEntry_eq _ opc c⟩

/-- The info word as a number (60_exceptions.md R356). -/
theorem faultInfo_toNat (opc : Byte) (c : Cause) :
    (faultInfo opc c).toNat = opc.toNat * 2 ^ 16 + c.sub.toNat * 2 ^ 8 + c.code.toNat := by
  have hopc := opc.isLt
  have hsub := c.sub.isLt
  have hcode := c.code.isLt
  simp only [faultInfo, BitVec.toNat_setWidth, toNat_append_add]
  omega

/-- Every CSR but STATUS reads as it does with another FAULT (10_state.md R51, R54). -/
theorem readCsr_of_fault (s : State) (f : Bool) {c : Nat} (h : c ≠ 2) :
    readCsr { s with fault := f } c = readCsr s c := by
  match c, h with
  | 0, _ | 1, _ | 3, _ | 4, _ | 5, _ | _ + 6, _ => rfl
  | 2, h => exact absurd rfl h

end Sys2Proof.Machine
end

section

open Sys2Proof Sys2Proof.Machine

/-- Settles O13: a command's checks end in next states, and so does every other transaction. -/
theorem stepNeverStops : Obligations.StepNeverStops := by
  intro s hinv
  obtain ⟨hdata, -⟩ := State.inv_iff.mp hinv
  exact exists_step_next hdata

/-- Settles O15: a step that leaves a response has decoded a word in vain or executed a command (`step_next`); one that
waited has passed its checks before it took a word, so it reports no fault. -/
theorem faultsArePrecise : Obligations.FaultsArePrecise := by
  intro s t r hinv hnone h hr
  rcases step_next h with ⟨-, rfl⟩ | ⟨-, ⟨r', hrsp⟩, -⟩ | ⟨-, -, i, hpend, hexec⟩ | ⟨-, -, -, -, rfl⟩ |
    ⟨-, -, -, c, q, e, hq, -, rfl⟩ | ⟨-, -, -, c, q, i, hq, -, hexec⟩
  · cases hr
  · cases hnone.symm.trans hrsp
  · obtain ⟨-, hf, hcan⟩ := hinv.waiting i hpend
    rcases (effect_of_exec hexec).response_cases hnone hr with h0 | ⟨hf', -⟩ | ⟨hi, -⟩
    · exact .inl h0
    · cases hf.symm.trans hf'
    · exact absurd hcan hi
  · cases hnone.symm.trans hr
  · obtain ⟨hcode, heq⟩ := faultEntry_precise s q (opcField c.word) (decodeCause e)
    obtain rfl := Option.some.inj hr
    exact .inr ⟨c, q, hq, .inr ⟨hcode, heq⟩⟩
  · rcases (effect_of_exec hexec).response_cases hnone hr with h0 | ⟨-, rfl, rfl⟩ | ⟨-, cause, rfl, rfl⟩
    · exact .inl h0
    · exact .inr ⟨c, q, hq, .inl ⟨rfl, rfl, rfl⟩⟩
    · exact .inr ⟨c, q, hq, .inr (faultEntry_precise s q i.opcode.code cause)⟩

/-- Settles O16: the checks are made in the order of the list. -/
theorem firstFailingCheckIsReported : Obligations.FirstFailingCheckIsReported := by
  intro s i pre post c P hexec hchecks hpre hP
  have h := exec_checked i s hexec
  rw [hchecks] at h
  exact h.faults hpre hP

/-- Settles O17: behind its checks a command finishes. -/
theorem commandCompletesWhenNoCheckFails : Obligations.CommandCompletesWhenNoCheckFails := by
  intro s i hinv hp hexec hchecks
  obtain ⟨hdata, -⟩ := State.inv_iff.mp hinv
  exact (exec_checked i s hexec).passes hchecks hdata hp

/-- Settles O18: FaultPending, and the four commands that have no such check; only STATUS shows FAULT. -/
theorem faultPendingChangesNothing : Obligations.FaultPendingChangesNothing := by
  intro s i hf
  refine ⟨fun hi => exec_of_latched (by simpa using mt isControl_iff.mp hi) hf, ?nop, ?clear, ?reset,
    fun c => ?read⟩ <;> rintro rfl
  case nop => rfl
  case clear => rfl
  case reset => exact ⟨_, rfl, resetValues_respond (resetValues_blockReset s) 0 0, rfl, rfl⟩
  case read =>
    refine ⟨fun hc => ?_, fun hc => ?_⟩
    · rw [exec_ctlRdcsr_of_none (readCsr_of_reserved s hc), State.faultEntry_eq, if_pos hf, ← hf]
      rfl
    · obtain ⟨v, hv⟩ := exists_readCsr_of_le s hc
      refine ⟨v, exec_ctlRdcsr_of_some hv, ?_, ?_, fun hne =>
        exec_ctlRdcsr_of_some ((readCsr_of_fault s false hne).trans hv)⟩
      · rintro rfl
        cases hv
        rw [csrStatus_toNat, hf, Bool.toNat_true]
      · rintro rfl
        cases hv
        rfl

/-- Settles O14: the fields of fault entry (`State.faultEntry_eq`) and the two tables. -/
theorem faultEntryRecordsTheFirstFault : Obligations.FaultEntryRecordsTheFirstFault :=
  ⟨fun s opc c => ⟨faultInfo opc c, faultInfo_toNat opc c, c.code_cases, s.faultEntry_eq opc c⟩, rfl⟩

end

section
/-! The outputs of the ports (10_state.md R60 to R63), and a command that waits while no word is on offer
(70_reset_and_hazards.md R416). -/

namespace Sys2Proof.Machine

variable {s : State}

theorem State.rspValid_eq_true_iff : s.rspValid = true ↔ s.rstN = true ∧ s.rsp.isSome = true := by
  simp [State.rspValid]

theorem State.rspValid_of_none (h : s.rsp = none) : s.rspValid = false := by simp [State.rspValid, h]

theorem State.rngReq_eq_true_iff : s.rngReq = true ↔ s.rstN = true ∧ s.pending.isSome = true := by
  simp [State.rngReq]

theorem State.rngReq_of_reset (h : s.rstN = false) : s.rngReq = false := by simp [State.rngReq, h]

theorem State.cmdReady_of_response (h : s.rsp.isSome = true) : s.cmdReady = false := by
  simp [State.cmdReady, Option.isNone_eq_false_iff.mpr h]

theorem State.cmdReady_of_waiting (h : s.pending.isSome = true) : s.cmdReady = false := by
  simp [State.cmdReady, Option.isNone_eq_false_iff.mpr h]

theorem State.supply_of_no_offer (hq : s.rngQ = []) : s.supply = s.taken := by
  rw [State.supply, hq, List.append_nil]

theorem drawing_of_short {i : Instr} {k : Nat} {go : List Word → State → Out} (hq : s.rngQ = [])
    (hlt : s.taken.length < k) : drawing i k s go = .next (s.await i s.taken) := by
  rw [drawing, State.supply_of_no_offer hq, if_pos hlt]

/-- A command short of words passes its checks again and goes on waiting with the words it has taken. -/
theorem exec_of_canWait {i : Instr} (hf : s.fault = false) (hq : s.rngQ = []) (hcan : CanWait s i) :
    exec i s = .next (s.await i s.taken) := by
  cases i with
  | permShuf rd n =>
    obtain ⟨h1, h64, hlt⟩ := hcan
    exact (exec_of_clear hf).trans ((withSize_of_mem ⟨h1, h64⟩).trans (drawing_of_short hq hlt))
  | permShufodd rd n =>
    obtain ⟨h2, h64, hlt⟩ := hcan
    exact (exec_of_clear hf).trans ((withSize_of_mem ⟨by omega, h64⟩).trans
      ((if_neg (by omega)).trans (drawing_of_short hq hlt)))
  | engGena n =>
    obtain ⟨h1, h64, hodd, hdepth, hstarved⟩ := hcan
    refine (exec_of_clear hf).trans ((withSize_of_mem ⟨h1, h64⟩).trans
      ((if_neg (by simp [hodd])).trans ((if_neg hdepth.not_gt).trans ?_)))
    rw [State.supply_of_no_offer hq, hstarved]
  | engSeedu =>
    obtain ⟨hgen, hlt⟩ := hcan
    exact (exec_of_clear hf).trans ((withGenerators_of_true hgen).trans (drawing_of_short hq hlt))
  | _ => exact hcan.elim

/-- A command that is taken up again and goes on waiting without a word leaves the block as it was. -/
theorem State.resume_await_self {i : Instr} (hp : s.pending = some i) (hq : s.rngQ = []) :
    State.await { s with pending := none } i s.taken = s := by
  have hdraws : s.draws + BitVec.ofNat 64 s.rngQ.length = s.draws := by simp [hq]
  simp only [State.await, hdraws, ← hp]
  rw [← hq]

theorem step_of_waiting {i : Instr} (hinv : s.Inv) (hrst : s.rstN = true) (hp : s.pending = some i)
    (hq : s.rngQ = []) : step s = .next s := by
  obtain ⟨-, hresumed, -⟩ := stepRunsTheDecodedInstruction
  obtain ⟨hrsp, hf, hcan⟩ := hinv.waiting i hp
  calc step s = exec i { s with pending := none } := hresumed s i hrst hrsp hp
    _ = .next (State.await { s with pending := none } i s.taken) := exec_of_canWait hf hq hcan
    _ = .next s := by rw [State.resume_await_self hp hq]

end Sys2Proof.Machine
end

section

open Sys2Proof Sys2Proof.Machine

/-- Settles O10: the command passes its checks at every step and is still short of a word (`step_of_waiting`); reset
abandons it. -/
theorem drawWaitsWithoutLimit : Obligations.DrawWaitsWithoutLimit := by
  intro s i hinv hrst hp hq
  obtain ⟨hrsp, -, -⟩ := hinv.waiting i hp
  have hwaits : s.pending.isSome = true := Option.isSome_of_eq_some hp
  exact ⟨step_of_waiting hinv hrst hp hq, State.rngReq_eq_true_iff.mpr ⟨hrst, hwaits⟩, State.rspValid_of_none hrsp,
    State.cmdReady_of_waiting hwaits, _, step_of_reset rfl, rfl, State.rngReq_of_reset rfl⟩

/-- Settles O7: the step is the block's reset, which takes the inputs and the configuration over. -/
theorem resetPinResetsEverything : Obligations.ResetPinResetsEverything := by
  intro s hrst
  exact ⟨s.blockReset, step_of_reset hrst, resetValues_blockReset s, rfl, State.rngReq_of_reset hrst,
    rfl, rfl, rfl, rfl, rfl⟩

/-- Settles O9: with a response outstanding the level of rsp_ready decides the step (`step_of_response`). -/
theorem responseIsHeldUntilTaken : Obligations.ResponseIsHeldUntilTaken := by
  intro s r hrst hr
  have hsome : s.rsp.isSome = true := Option.isSome_of_eq_some hr
  refine ⟨State.rspValid_eq_true_iff.mpr ⟨hrst, hsome⟩, State.cmdReady_of_response hsome, fun hheld => ?_,
    fun htaken => ?_⟩
  · rw [step_of_response hrst hr, hheld]
    rfl
  · rw [step_of_response hrst hr, if_pos htaken]

end

section

open Sys2Proof Sys2Proof.Machine

/-- Settles O8: the reset state is its own reset (`resetValues_blockReset`), and nothing stands in its channels. -/
theorem resetState : Obligations.ResetState :=
  ⟨resetValues_blockReset State.reset, rfl, rfl, rfl⟩

end

section
/-! Two commands in a row (40_biguint.md section 7): the second reads what the first has written to its RD. -/

namespace Sys2Proof.Machine

variable {s : State} {rd r1 r2 : BReg}

theorem exec_bigAdd_of_lt (hf : s.fault = false) (h : s.getBr r1 + s.getBr r2 < 2 ^ (32 * s.cfg.bigLimbs)) :
    exec (.bigAdd rd r1 r2) s = .next ((s.setBr rd (s.getBr r1 + s.getBr r2)).respond 0 0) :=
  (exec_of_clear hf).trans (writeBig_of_lt h)

theorem exec_bigSub (hf : s.fault = false) :
    exec (.bigSub rd r1 r2) s = .next ((s.setBr rd (s.getBr r1 - s.getBr r2)).respond 0 0) :=
  exec_of_clear hf

theorem exec_bigMul_of_lt (hf : s.fault = false) (h : s.getBr r1 * s.getBr r2 < 2 ^ (32 * s.cfg.bigLimbs)) :
    exec (.bigMul rd r1 r2) s = .next ((s.setBr rd (s.getBr r1 * s.getBr r2)).respond 0 0) :=
  (exec_of_clear hf).trans (writeBig_of_lt h)

theorem exec_bigDiv_of_ne (hf : s.fault = false) (h : s.getBr r2 ≠ 0) :
    exec (.bigDiv rd r1 r2) s = .next ((s.setBr rd (s.getBr r1 / s.getBr r2)).respond 0 0) :=
  (exec_of_clear hf).trans (if_neg h)

theorem exec_bigShl_of_lt {d : Word} (hf : s.fault = false)
    (h : s.getBr r1 * 2 ^ d.toNat < 2 ^ (32 * s.cfg.bigLimbs)) :
    exec (.bigShl rd r1 d) s = .next ((s.setBr rd (s.getBr r1 * 2 ^ d.toNat)).respond 0 0) := by
  rw [← shlValue_eq]
  exact (exec_of_clear hf).trans (if_neg (mt shlOverflows_iff.mp h.not_ge))

theorem exec_bigShr {d : Word} (hf : s.fault = false) :
    exec (.bigShr rd r1 d) s = .next ((s.setBr rd (s.getBr r1 / 2 ^ d.toNat)).respond 0 0) := by
  rw [← shrValue_eq]
  exact exec_of_clear hf

/-- A command that writes v to BR[rd] and one after it that writes w there. -/
theorem exists_completes_twice {i j : Instr} {v w x : Nat} (hp : s.pending = none)
    (hi : exec i s = .next ((s.setBr rd v).respond 0 0))
    (hj : exec j ((s.setBr rd v).respond 0 0) = .next ((((s.setBr rd v).respond 0 0).setBr rd w).respond 0 0))
    (hw : w = x) :
    ∃ t u, completes i s = some (t, 0) ∧ completes j t = some (u, 0) ∧ u.getBr rd = x :=
  ⟨_, _, completes_of_exec hi hp, completes_of_exec hj hp, (State.getBr_setBr_same _ rd w).trans hw⟩

end Sys2Proof.Machine
end

section

open Sys2Proof Sys2Proof.Machine

/-- Settles O30: the second operand is kept (rd ≠ r2), so the second command takes off what the first put on. -/
theorem bigCommandsUndo : Obligations.BigCommandsUndo := by
  intro s rd r1 r2 d hf hp hne
  have hread : ∀ v, ((s.setBr rd v).respond 0 0).getBr rd = v := State.getBr_setBr_same s rd
  have hkept : ∀ v, ((s.setBr rd v).respond 0 0).getBr r2 = s.getBr r2 := fun v => State.getBr_setBr_ne s rd r2 v hne
  refine ⟨fun hfit => ?add, fun hpos hfit => ?mul, fun hfit => ?shift⟩
  case add =>
    refine exists_completes_twice hp (exec_bigAdd_of_lt hf hfit) (exec_bigSub hf) ?_
    rw [hread, hkept, Nat.add_sub_cancel]
  case mul =>
    refine exists_completes_twice hp (exec_bigMul_of_lt hf hfit) (exec_bigDiv_of_ne hf ((hkept _).trans_ne hpos.ne')) ?_
    rw [hread, hkept, Nat.mul_div_cancel _ hpos]
  case shift =>
    refine exists_completes_twice hp (exec_bigShl_of_lt hf hfit) (exec_bigShr hf) ?_
    rw [hread, Nat.mul_div_cancel _ (by positivity)]

end

section
/-! The reading commands (20_memory.md R88). None of them writes, and none of them sees the response that stands from
the command before: each answers with a response of its own. -/

namespace Sys2Proof.Machine

/-- The opcodes of the reading commands. -/
def queryOpcodes : List Opcode :=
  [.ctlRdcsr, .bigCmp, .bigBitcnt, .bigTrunc32, .bigTrunc64, .bigGetlimb, .bigNlimbs, .bigHexlen, .bigHexdig,
   .permGetimg, .permSize, .permIsid, .permEq, .permSharefix, .ptOrder, .landau, .engMix, .engGetd]

/-- The opcodes of the commands that write, CTL_SRESET aside. -/
def writerOpcodes : List Opcode := .ctlClrerr :: .permLdimg :: (brWriters ++ prWriters ++ ptWriters ++ pWriters)

theorem isQuery_iff {i : Instr} : isQuery i = true ↔ i.opcode ∈ queryOpcodes := by
  cases i <;> simp [isQuery, Instr.opcode, queryOpcodes]

theorem Writes.eq_or_mem {i : Instr} {s t : State} (h : Writes i s t) : t = s ∨ i.opcode ∈ writerOpcodes := by
  have hpt : ptWriters ⊆ writerOpcodes := by decide
  have hseed : [Opcode.engSeedr, .engSeedu] ⊆ writerOpcodes := by decide
  cases h with
  | nothing => exact .inl rfl
  | clearFault hi => exact .inr (hi ▸ List.mem_cons_self)
  | br v hi => exact .inr (by simp [writerOpcodes, hi])
  | pr p hi => exact .inr (by simp [writerOpcodes, hi])
  | img buf hi => exact .inr (by simp [writerOpcodes, hi])
  | table g hi => exact .inr (hpt (hi ▸ List.mem_cons_self))
  | generators n g0 g1 hi => exact .inr (hpt (List.mem_cons_of_mem _ hi))
  | seed p hi => exact .inr (hseed hi)
  | step s' hi => exact .inr (hi ▸ by decide)
  | rand s' w hi => exact .inr (hi ▸ by decide)

theorem Writes.eq_of_isQuery {i : Instr} {s t : State} (h : Writes i s t) (hi : isQuery i = true) : t = s := by
  have hdisjoint : ∀ o ∈ queryOpcodes, o ∉ writerOpcodes := by decide
  exact h.eq_or_mem.resolve_right (hdisjoint _ (isQuery_iff.mp hi))

theorem isDrawing_of_isQuery {i : Instr} (hi : isQuery i = true) : isDrawing i = false := by
  have hdisjoint : ∀ o ∈ queryOpcodes, o ∉ [.permShuf, .permShufodd, .engGena, .engSeedu] := by decide
  exact Bool.eq_false_iff.mpr (mt isDrawing_iff.mp (hdisjoint _ (isQuery_iff.mp hi)))

/-- What a reading command can come to: a fault, FaultPending, or its result. -/
theorem Effect.of_isQuery {i : Instr} {s t : State} (h : Effect i s t) (hi : isQuery i = true) :
    (∃ c : Cause, t = s.faultEntry i.opcode.code c) ∨ t = s.respond 4 s.errinfo ∨ ∃ v, t = s.respond 0 v := by
  have hnodraw := isDrawing_of_isQuery hi
  cases h with
  | faulted c => exact .inl ⟨c, rfl⟩
  | faultPending => exact .inr (.inl rfl)
  | completed s' t v hd hw =>
    obtain rfl := hw.eq_of_isQuery hi
    cases hd with
    | nothing => exact .inr (.inr ⟨v, rfl⟩)
    | words _ hdraw => cases hnodraw.symm.trans hdraw
  | waits _ hdraw => cases hnodraw.symm.trans hdraw
  | reset heq => cases heq ▸ hi

/-! What a command answers does not depend on a response that stands before it: the operand forms. -/

section Respond

variable {o : Opcode} {s : State} {c : Byte} {v : Word}

theorem raise_respond (cause : Cause) : raise o cause (s.respond c v) = raise o cause s := by
  rw [raise_eq, raise_eq, State.faultEntry_eq, State.faultEntry_eq]
  rfl

theorem unlessFault_respond {k k' : Out} (h : k' = k) : unlessFault (s.respond c v) k' = unlessFault s k := by
  rw [h]
  rfl

theorem withIndex_respond {idx lim : Nat} {k k' : Out} (h : k' = k) :
    withIndex o idx lim (s.respond c v) k' = withIndex o idx lim s k := by
  rw [withIndex, withIndex, raise_respond, h]

theorem withPerm_respond {r : PReg} {k k' : Perm → Out} (h : ∀ p, k' p = k p) :
    withPerm o r (s.respond c v) k' = withPerm o r s k := by
  obtain rfl : k' = k := funext h
  rw [withPerm, withPerm, raise_respond, State.getPr_respond]

theorem withPerms_respond {r1 r2 : PReg} {k k' : Perm → Perm → Out} (h : ∀ p q, k' p q = k p q) :
    withPerms o r1 r2 (s.respond c v) k' = withPerms o r1 r2 s k :=
  withPerm_respond fun p => withPerm_respond (h p)

theorem withEqualSizes_respond {n1 n2 : Nat} {k k' : Out} (h : k' = k) :
    withEqualSizes o n1 n2 (s.respond c v) k' = withEqualSizes o n1 n2 s k := by
  rw [withEqualSizes, withEqualSizes, raise_respond, h]

theorem withTable_respond {u : PtUnit} {k k' : PowerTable → Out} (h : ∀ g, k' g = k g) :
    withTable o u (s.respond c v) k' = withTable o u s k := by
  obtain rfl : k' = k := funext h
  rw [withTable, withTable, raise_respond, State.getPt_respond]

theorem withSeeded_respond {k k' : Out} (h : k' = k) :
    withSeeded o (s.respond c v) k' = withSeeded o s k := by
  rw [withSeeded, withSeeded, raise_respond, State.respond_seeded, h]

theorem readCsr_respond (n : Nat) : readCsr (s.respond c v) n = readCsr s n := by
  match n with
  | 0 | 1 | 2 | 3 | 4 | 5 | _ + 6 => rfl

theorem exec_respond_of_isQuery {i : Instr} (hi : isQuery i = true) : exec i (s.respond c v) = exec i s := by
  cases i with
  | ctlRdcsr n =>
    show execCtlRdcsr n (s.respond c v) = execCtlRdcsr n s
    rw [execCtlRdcsr, execCtlRdcsr, readCsr_respond, raise_respond]
    rfl
  | bigCmp | bigBitcnt | bigTrunc32 | bigTrunc64 | bigNlimbs | bigHexlen | permSize => exact unlessFault_respond rfl
  | bigGetlimb | bigHexdig => exact unlessFault_respond (withIndex_respond rfl)
  | permGetimg => exact unlessFault_respond (withIndex_respond (withPerm_respond fun _ => rfl))
  | permIsid => exact unlessFault_respond (withPerm_respond fun _ => rfl)
  | permEq => exact unlessFault_respond (withPerms_respond fun _ _ => rfl)
  | permSharefix => exact unlessFault_respond (withPerms_respond fun _ _ => withEqualSizes_respond rfl)
  | ptOrder => exact unlessFault_respond (withTable_respond fun _ => rfl)
  | landau n => exact unlessFault_respond (by rw [raise_respond]; rfl)
  | engMix => exact unlessFault_respond (withSeeded_respond rfl)
  | engGetd j => exact unlessFault_respond (by rw [raise_respond]; rfl)
  | _ => cases hi

end Respond

end Sys2Proof.Machine
end

section

open Sys2Proof Sys2Proof.Machine

/-- Settles O55: of a reading command's three outcomes only its result has status 0, and that leaves a state which
differs in the response alone. -/
theorem queriesChangeNothing : Obligations.QueriesChangeNothing := by
  intro i s t hi h
  rcases (effect_of_exec h).of_isQuery hi with ⟨c, rfl⟩ | rfl | ⟨v, rfl⟩
  · rw [State.faultEntry_eq]
    exact ⟨rfl, fun v hv => absurd (congrArg Response.status (Option.some.inj hv)) c.code_ne_zero⟩
  · exact ⟨rfl, fun v hv => by cases hv⟩
  · exact ⟨rfl, fun _ _ => ⟨rfl, rfl, (exec_respond_of_isQuery hi).trans h⟩⟩

end

section
/-! Ranks (41_perm.md R203, R204): the digit of the last entry is its index among the sorted elements, the digits before
it are the rank of what stands before it. So rank and fromrank take the entries off from the end in the same way, each
undoing the other. -/

namespace Sys2Proof.Machine

/-! The rank of an image with one entry more. -/

theorem rankDigit_append_left {l : Perm} (x : Nat) {i : Nat} (hi : i < l.length) :
    rankDigit (l ++ [x]) i = rankDigit l i := by
  rw [rankDigit, rankDigit, List.take_append_of_le_length hi.le, List.getD_append _ _ _ _ hi]

theorem rankDigit_append_last (l : Perm) (x : Nat) :
    rankDigit (l ++ [x]) l.length = l.countP fun y => decide (y < x) := by
  rw [rankDigit, List.take_left, List.getD_append_right _ _ _ _ le_rfl, Nat.sub_self, List.getD_cons_zero]

theorem rank_append_singleton (l : Perm) (x : Nat) :
    rank (l ++ [x]) = rank l + (l.countP fun y => decide (y < x)) * l.length.factorial := by
  have hbelow : ∀ i ∈ List.range l.length,
      rankDigit (l ++ [x]) i * i.factorial = rankDigit l i * i.factorial := fun i hi => by
    rw [rankDigit_append_left x (List.mem_range.mp hi)]
  rw [rank, List.length_append, List.length_singleton, List.range_succ, List.map_append, List.sum_append,
    List.map_congr_left hbelow, List.map_singleton, List.sum_singleton, rankDigit_append_last, rank]

/-- An increasing image has the greatest rank of its size (41_perm.md section 2). -/
theorem rank_of_increasing {p : Perm} (h : p.Pairwise (· < ·)) : rank p + 1 = p.length.factorial := by
  induction p using List.reverseRecOn with
  | nil => rfl
  | append_singleton l x ih =>
    obtain ⟨hl, -, hx⟩ := List.pairwise_append.mp h
    have hcount : (l.countP fun y => decide (y < x)) = l.length := List.countP_eq_length.mpr (by simpa using hx)
    rw [rank_append_singleton, hcount, List.length_append, List.length_singleton, Nat.factorial_succ, ← ih hl]
    ring

/-- A decreasing image has rank 0 (41_perm.md section 2). -/
theorem rank_of_decreasing {p : Perm} (h : p.Pairwise (· > ·)) : rank p = 0 := by
  induction p using List.reverseRecOn with
  | nil => rfl
  | append_singleton l x ih =>
    obtain ⟨hl, -, hx⟩ := List.pairwise_append.mp h
    have hcount : (l.countP fun y => decide (y < x)) = 0 :=
      List.countP_eq_zero.mpr fun y hy => by simpa using (hx y hy x (by simp)).le
    rw [rank_append_singleton, ih hl, hcount, Nat.zero_mul]

theorem rank_range (n : Nat) : rank (List.range n) + 1 = n.factorial := by
  simpa using rank_of_increasing (List.pairwise_lt_range (n := n))

theorem rank_reverse_range (n : Nat) : rank (List.range n).reverse = 0 :=
  rank_of_decreasing (List.pairwise_reverse.mpr List.pairwise_lt_range)

/-! The sorted elements left of the loop of fromrank. -/

/-- What the loop has placed stays at the end. -/
theorem unrankLoop_append (i r : Nat) (d : List Nat) (acc : Perm) :
    unrankLoop i r d acc = unrankLoop i r d [] ++ acc := by
  induction i generalizing r d acc with
  | zero => rfl
  | succ i ih => rw [unrankLoop, unrankLoop, ih, ih _ _ [_], List.append_assoc, List.singleton_append]

theorem unrankLoop_succ {i r : Nat} {d : List Nat} (hc : r / i.factorial < d.length) :
    unrankLoop (i + 1) r d [] =
      unrankLoop i (r % i.factorial) (d.eraseIdx (r / i.factorial)) [] ++ [d[r / i.factorial]] := by
  rw [unrankLoop, unrankLoop_append, List.getD_eq_getElem _ _ hc]

/-- Element c of sorted elements has c smaller ones among the others, in whatever order they stand. -/
theorem countP_lt_of_perm_eraseIdx {d l : List Nat} (hd : d.Pairwise (· < ·)) {c : Nat} (hc : c < d.length)
    (hl : l.Perm (d.eraseIdx c)) : (l.countP fun y => decide (y < d[c])) = c := by
  have hsplit : d.take c ++ d[c] :: d.drop (c + 1) = d := by simp
  obtain ⟨-, hright, hleft⟩ := List.pairwise_append.mp (hsplit.symm ▸ hd)
  have hbelow : ((d.take c).countP fun y => decide (y < d[c])) = (d.take c).length :=
    List.countP_eq_length.mpr fun y hy => by simpa using hleft y hy d[c] List.mem_cons_self
  have habove : ((d.drop (c + 1)).countP fun y => decide (y < d[c])) = 0 :=
    List.countP_eq_zero.mpr fun y hy => by simpa using (List.rel_of_pairwise_cons hright hy).le
  rw [hl.countP_eq, List.eraseIdx_eq_take_drop_succ, List.countP_append, hbelow, habove, List.length_take_of_le hc.le,
    Nat.add_zero]

/-- The digit r div i! picks one of i + 1 elements (41_perm.md R203). -/
theorem div_factorial_lt {i r : Nat} (hr : r < (i + 1).factorial) : r / i.factorial < i + 1 :=
  (Nat.div_lt_iff_lt_mul i.factorial_pos).mpr (Nat.factorial_succ i ▸ hr)

/-- rank reads the digits back that the loop of fromrank has taken. -/
theorem rank_unrankLoop {i r : Nat} {d : List Nat} (hd : d.Pairwise (· < ·)) (hlen : d.length = i)
    (hr : r < i.factorial) : rank (unrankLoop i r d []) = r := by
  induction i generalizing r d with
  | zero => exact (Nat.lt_one_iff.mp hr).symm
  | succ i ih =>
    have hc : r / i.factorial < d.length := hlen ▸ div_factorial_lt hr
    have hmod : r % i.factorial < i.factorial := Nat.mod_lt r i.factorial_pos
    have hrest : (d.eraseIdx (r / i.factorial)).length = i := by rw [List.length_eraseIdx_of_lt hc, hlen]; rfl
    have hperm : (unrankLoop i (r % i.factorial) (d.eraseIdx (r / i.factorial)) []).Perm
        (d.eraseIdx (r / i.factorial)) := by
      simpa using unrankLoop_perm i _ _ [] hrest hmod
    rw [unrankLoop_succ hc, rank_append_singleton, ih (hd.sublist (List.eraseIdx_sublist _ _)) hrest hmod,
      countP_lt_of_perm_eraseIdx hd hc hperm, hperm.length_eq, hrest, Nat.mod_add_div']

/-- The loop of fromrank rebuilds an image of the sorted elements from its rank. -/
theorem unrankLoop_rank {p : Perm} {d : List Nat} (hd : d.Pairwise (· < ·)) (hp : p.Perm d) :
    unrankLoop p.length (rank p) d [] = p := by
  induction p using List.reverseRecOn generalizing d with
  | nil => rfl
  | append_singleton l x ih =>
    obtain ⟨c, hc, rfl⟩ := List.getElem_of_mem (hp.mem_iff.mp (List.mem_append_right l List.mem_cons_self))
    have hl : l.Perm (d.eraseIdx c) :=
      (List.perm_cons d[c]).mp ((List.perm_append_singleton d[c] l).symm.trans
        (hp.trans (List.getElem_cons_eraseIdx_perm hc).symm))
    have hlt : rank l < l.length.factorial := rank_lt_factorial l
    have hrank : rank (l ++ [d[c]]) = rank l + c * l.length.factorial := by
      rw [rank_append_singleton, countP_lt_of_perm_eraseIdx hd hc hl]
    have hdiv : rank (l ++ [d[c]]) / l.length.factorial = c := by
      rw [hrank, Nat.add_mul_div_right _ _ l.length.factorial_pos, Nat.div_eq_of_lt hlt, Nat.zero_add]
    have hmod : rank (l ++ [d[c]]) % l.length.factorial = rank l := by
      rw [hrank, Nat.add_mul_mod_self_right, Nat.mod_eq_of_lt hlt]
    rw [List.length_append, List.length_singleton, unrankLoop_succ (hdiv.symm ▸ hc)]
    simp only [hdiv, hmod, ih (hd.sublist (List.eraseIdx_sublist _ _)) hl]

/-! The two commands' functions (41_perm.md section 1). -/

theorem rank_fromRank (n r : Nat) : rank (fromRank n r) = r % n.factorial :=
  rank_unrankLoop List.pairwise_lt_range List.length_range (Nat.mod_lt r n.factorial_pos)

theorem fromRank_rank {p : Perm} {n : Nat} (hp : p.Perm (List.range n)) : fromRank n (rank p) = p := by
  obtain rfl : p.length = n := by simpa using hp.length_eq
  rw [fromRank, Nat.mod_eq_of_lt (rank_lt_factorial p)]
  exact unrankLoop_rank List.pairwise_lt_range hp

theorem fromRank_zero (n : Nat) : fromRank n 0 = (List.range n).reverse := by
  simpa only [rank_reverse_range] using fromRank_rank (List.reverse_perm (List.range n))

/-- The greatest rank modulo n! is the identity's (41_perm.md sections 1 and 2). -/
theorem fromRank_of_mod_eq {n r : Nat} (h : r % n.factorial = n.factorial - 1) : fromRank n r = List.range n := by
  have hr : r % n.factorial = rank (List.range n) := by
    rw [h, ← rank_range, Nat.add_sub_cancel]
  have hmod : fromRank n r = fromRank n (r % n.factorial) := by rw [fromRank, fromRank, Nat.mod_mod]
  rw [hmod, hr, fromRank_rank (List.Perm.refl _)]

/-- The rank is the sum the spec writes (41_perm.md R204). -/
theorem rank_eq_rankSum (p : Perm) : rank p = rankSum p := by
  have hdigit : ∀ i ∈ Finset.range p.length,
      ((Finset.range i).filter fun j => p.getD j 0 < p.getD i 0).card = rankDigit p i := fun i hi => by
    have htake : p.take i = (List.range i).map fun j => p.getD j 0 := by
      have hle : i ≤ p.length := (Finset.mem_range.mp hi).le
      refine List.ext_getElem (by simpa using hle) fun j hj _ => ?_
      have hjp : j < p.length := by simp at hj; omega
      simp [List.getD_eq_getElem?_getD, hjp]
    rw [rankDigit, htake, List.countP_map, List.countP_eq_length_filter]
    rfl
  rw [rankSum, Finset.sum_congr rfl fun i hi => by rw [hdigit i hi]]
  rfl

end Sys2Proof.Machine
end

section

open Sys2Proof Sys2Proof.Machine

/-- Settles O34: rank and fromrank undo each other (`rank_fromRank`, `fromRank_rank`). -/
theorem rankAndUnrankAreInverse : Obligations.RankAndUnrankAreInverse := by
  refine ⟨fun n r h1 h64 => ⟨?_, fromRank_length n r, ?_⟩, fun p hp => ⟨?_, ?_, rank_eq_rankSum p⟩⟩
  · exact wfPerm_of_perm_range (fromRank_perm n r) ⟨h1, h64⟩
  · rw [← rank_eq_rankSum, rank_fromRank]
  · rw [← rank_eq_rankSum]
    exact rank_lt_factorial p
  · rw [← rank_eq_rankSum]
    exact fromRank_rank (perm_range_of_wfPerm hp rfl)

/-- Settles O33: the command writes `rank`, which is the spec's sum; increasing and decreasing images have the greatest
and the least rank. -/
theorem permRank : Obligations.PermRank := by
  intro s rd r1 hf
  refine ⟨wordIs_fields _, fun h => ?_, fun p h _ => ?_⟩
  · exact (exec_of_clear hf).trans (withPerm_of_none h)
  · rw [← rank_eq_rankSum]
    refine ⟨(exec_of_clear hf).trans (withPerm_of_some h), rank_lt_factorial p, fun hid => ?_, fun hrev => ?_⟩
    · rw [← rank_range, ← hid, Nat.add_sub_cancel]
    · rw [hrev]
      exact rank_reverse_range p.length

/-- Settles O32: the image written has the rank r mod n!, and fromrank gives the reversal and the identity back from
their ranks 0 and n! - 1. -/
theorem permFromRank : Obligations.PermFromRank := by
  intro s rd r1 n hf
  refine ⟨wordIs_fields _, fun h => ?_, fun hn => ⟨fromRank n (s.getBr r1), ?_, ?_, fromRank_length _ _, ?_, ?_, ?_⟩⟩
  · exact (exec_of_clear hf).trans (withSize_of_not_mem h)
  · exact (exec_of_clear hf).trans (withSize_of_mem hn)
  · exact wfPerm_of_perm_range (fromRank_perm _ _) hn
  · rw [← rank_eq_rankSum, rank_fromRank]
  · intro hzero
    rw [hzero, fromRank_zero]
  · exact fromRank_of_mod_eq

end

section
/-! Seeded blocks that hold the same of what rand() reads (43_engine.md section 1). -/

namespace Sys2Proof.Machine

/-- A command completes with status 0 and this result. -/
theorem completes_eq_some_iff {i : Instr} {s t : State} {v : Word} :
    completes i s = some (t, v) ↔ exec i s = .next t ∧ t.rsp = some ⟨0, v⟩ ∧ t.pending = none := by
  constructor
  · intro h
    unfold completes at h
    split at h
    · rename_i u hu
      split at h
      · rename_i r hr
        split at h
        · obtain ⟨hstatus, hpending⟩ := ‹_ ∧ _›
          obtain ⟨rfl, rfl⟩ := Prod.mk.inj (Option.some.inj h)
          exact ⟨hu, hr.trans (by rw [← hstatus]), hpending⟩
        · cases h
      · cases h
    · cases h
  · rintro ⟨hexec, hrsp, hpending⟩
    simp [completes, hexec, hrsp, hpending]

/-- A block that ENG_RAND draws from: seeded, without a latched fault and without a command that waits. -/
structure ReadyForRand (s : State) : Prop where
  fault : s.fault = false
  pending : s.pending = none
  seeded : s.seeded = true

/-- Two blocks ready for ENG_RAND that hold the same tables, P, KEY, delay line, tail and parity bit
(43_engine.md R281 to R283). -/
structure SameEngine (s1 s2 : State) : Prop where
  ready1 : ReadyForRand s1
  ready2 : ReadyForRand s2
  pt : s1.pt = s2.pt
  p : s1.p = s2.p
  key : s1.cfg.key = s2.cfg.key
  d : s1.d = s2.d
  tail : s1.t = s2.t
  parity : s1.b = s2.b

variable {s s1 s2 t1 t2 : State}

theorem SameEngine.symm (h : SameEngine s1 s2) : SameEngine s2 s1 :=
  ⟨h.ready2, h.ready1, h.pt.symm, h.p.symm, h.key.symm, h.d.symm, h.tail.symm, h.parity.symm⟩

theorem ReadyForRand.exec_engRand (h : ReadyForRand s) :
    exec .engRand s = orBroken s.engineRand fun r => answer r.2 r.1 :=
  (exec_of_clear h.fault).trans (withSeeded_of_true h.seeded)

theorem ReadyForRand.engineRand_of_completes {t : State} {w : Word} (h : ReadyForRand s)
    (hc : completes .engRand s = some (t, w)) : ∃ u, s.engineRand = some (u, w) ∧ t = u.respond 0 w := by
  obtain ⟨hexec, hrsp, -⟩ := completes_eq_some_iff.mp hc
  obtain ⟨⟨u, w'⟩, hrand, hanswer⟩ := orBroken_next (h.exec_engRand.symm.trans hexec)
  obtain rfl := next_inj hanswer
  obtain rfl : w' = w := congrArg Response.result (Option.some.inj hrsp)
  exact ⟨u, hrand, rfl⟩

theorem ReadyForRand.completes_of_engineRand {u : State} {w : Word} (h : ReadyForRand s)
    (hrand : s.engineRand = some (u, w)) (hu : u.pending = none) :
    completes .engRand s = some (u.respond 0 w, w) :=
  completes_of_exec (h.exec_engRand.trans (by rw [hrand, orBroken, answer_eq])) hu

/-- step() reads P, the tables, D, t and b only (43_engine.md R281). -/
theorem SameEngine.engineStep (h : SameEngine s1 s2) (h1 : s1.engineStep = some t1) :
    ∃ t2, s2.engineStep = some t2 ∧ SameEngine t1 t2 := by
  obtain ⟨p, g, x, hp, hg, hx, rfl⟩ := State.engineStep_eq_some.mp h1
  have hg2 : s2.getPt s2.b = some g := by rw [← hg, State.getPt, State.getPt, h.pt, h.parity]
  have hx2 : g.tab[exponent s2 g.k]? = some x := by simpa only [exponent, h.d, h.tail] using hx
  refine ⟨_, State.engineStep_eq_some.mpr ⟨p, g, x, h.p ▸ hp, hg2, hx2, rfl⟩, ?_⟩
  exact { h with
    ready1 := { h.ready1 with }, ready2 := { h.ready2 with }, p := rfl, parity := congrArg (· + 1) h.parity }

/-- rand() reads KEY beyond that, and gives the same output (43_engine.md R282, R283). -/
theorem SameEngine.engineRand {w : Word} (h : SameEngine s1 s2) (h1 : s1.engineRand = some (t1, w)) :
    ∃ t2, s2.engineRand = some (t2, w) ∧ SameEngine t1 t2 := by
  obtain ⟨u1, p, hstep, hp, hres⟩ := State.engineRand_eq_some.mp h1
  obtain ⟨u2, hstep2, hu⟩ := h.engineStep hstep
  obtain ⟨rfl, rfl⟩ := Prod.mk.inj hres
  have hmix : mix u1.cfg p = mix u2.cfg p := by rw [mix, mix, hu.key]
  refine ⟨u2.pushDelay (mix u2.cfg p), State.engineRand_eq_some.mpr ⟨u2, p, hstep2, hu.p ▸ hp, ?_⟩, ?_⟩
  · simp only [State.pushDelay_d, hmix, hu.d, hu.tail]
  · exact { hu with
      ready1 := { hu.ready1 with }, ready2 := { hu.ready2 with }
      d := by simp only [State.pushDelay_d, hmix, hu.d, hu.tail], tail := congrArg (· + 1) hu.tail }

theorem SameEngine.completes_engRand {w : Word} (h : SameEngine s1 s2) (h1 : completes .engRand s1 = some (t1, w)) :
    ∃ t2, completes .engRand s2 = some (t2, w) ∧ SameEngine t1 t2 := by
  obtain ⟨u1, hu1, rfl⟩ := h.ready1.engineRand_of_completes h1
  obtain ⟨u2, hu2, hu⟩ := h.engineRand hu1
  exact ⟨_, h.ready2.completes_of_engineRand hu2 hu.ready2.pending,
    { hu with ready1 := { hu.ready1 with }, ready2 := { hu.ready2 with } }⟩

theorem outputs_succ_eq_some_iff {k : Nat} {ws : List Word} :
    outputs (k + 1) s = some ws ↔
      ∃ t w vs, completes .engRand s = some (t, w) ∧ outputs k t = some vs ∧ ws = w :: vs := by
  rw [outputs]
  cases h : completes .engRand s with
  | none => simp
  | some r =>
    obtain ⟨t, w⟩ := r
    simp [eq_comm]

theorem SameEngine.outputs_eq_some {k : Nat} {ws : List Word} (h : SameEngine s1 s2) (h1 : outputs k s1 = some ws) :
    outputs k s2 = some ws := by
  induction k generalizing s1 s2 ws with
  | zero => exact h1
  | succ k ih =>
    obtain ⟨t1, w, vs, hrand, hout, rfl⟩ := outputs_succ_eq_some_iff.mp h1
    obtain ⟨t2, hrand2, ht⟩ := h.completes_engRand hrand
    exact outputs_succ_eq_some_iff.mpr ⟨t2, w, vs, hrand2, ih ht hout, rfl⟩

/-- The same engine gives the same outputs, or stops short of them in both blocks. -/
theorem SameEngine.outputs_eq (h : SameEngine s1 s2) (k : Nat) : outputs k s1 = outputs k s2 :=
  Option.ext fun _ => ⟨h.outputs_eq_some, h.symm.outputs_eq_some⟩

/-- What a seeding leaves (43_engine.md R287): P, with D, t and b restarted. -/
structure SeededFrom (s t : State) : Prop where
  ready : ReadyForRand t
  pt : t.pt = s.pt
  cfg : t.cfg = s.cfg
  d : t.d = s.cfg.dInit
  tail : t.t = 0
  parity : t.b = 0

theorem seededFrom_reseed {p0 : Perm} (hf : s.fault = false) (hp : s.pending = none) :
    SeededFrom s ((s.reseed p0).respond 0 0) :=
  ⟨⟨hf, hp, rfl⟩, rfl, rfl, rfl, rfl, rfl⟩

theorem rsp_faultEntry_ne (s : State) (opc : Byte) (c : Cause) (v : Word) :
    (s.faultEntry opc c).rsp ≠ some ⟨0, v⟩ := fun h =>
  c.code_ne_zero (congrArg Response.status (Option.some.inj h))

/-- A command behind FaultPending does not complete while a fault is latched (60_exceptions.md R355). -/
theorem fault_eq_false_of_completes {i : Instr} {t : State} {v : Word} (hi : isControl i = false)
    (h : completes i s = some (t, v)) : s.fault = false := by
  obtain ⟨hexec, hrsp, -⟩ := completes_eq_some_iff.mp h
  cases hf : s.fault with
  | false => rfl
  | true =>
    obtain rfl := next_inj ((exec_of_latched hi hf).symm.trans hexec)
    cases hrsp

theorem seededFrom_of_completes_engSeedr {r1 : BReg} {t : State} {v : Word}
    (h : completes (.engSeedr r1) s = some (t, v)) : SeededFrom s t := by
  have hf := fault_eq_false_of_completes rfl h
  obtain ⟨hexec, hrsp, hpending⟩ := completes_eq_some_iff.mp h
  rcases withGenerators_next ((exec_of_clear hf).symm.trans hexec) with ⟨-, rfl⟩ | ⟨-, hseed⟩
  · exact absurd hrsp (rsp_faultEntry_ne s _ _ v)
  · obtain rfl := next_inj hseed
    exact seededFrom_reseed hf hpending

/-- ENG_SEEDU reseeds behind its draws, which touch nothing of the engine. -/
theorem seededFrom_of_completes_engSeedu {t : State} {v : Word} (h : completes .engSeedu s = some (t, v)) :
    SeededFrom s t := by
  have hf := fault_eq_false_of_completes rfl h
  obtain ⟨hexec, hrsp, hpending⟩ := completes_eq_some_iff.mp h
  rcases withGenerators_next ((exec_of_clear hf).symm.trans hexec) with ⟨-, rfl⟩ | ⟨-, hdraw⟩
  · exact absurd hrsp (rsp_faultEntry_ne s _ _ v)
  · rcases drawing_next hdraw with ⟨-, rfl⟩ | ⟨-, hseed⟩
    · cases hpending
    · obtain rfl := next_inj hseed
      exact { seededFrom_reseed (s := s.drew _) hf hpending with }

/-- A seeding command that completes has reseeded the engine; its faults and its wait do not complete. -/
theorem seededFrom_of_completes {i : Instr} {t : State} {v : Word} (hi : i.opcode ∈ [.engSeedr, .engSeedu])
    (h : completes i s = some (t, v)) : SeededFrom s t := by
  cases i with
  | engSeedr r1 => exact seededFrom_of_completes_engSeedr h
  | engSeedu => exact seededFrom_of_completes_engSeedu h
  | _ => simp [Instr.opcode] at hi

end Sys2Proof.Machine
end

section

open Sys2Proof Sys2Proof.Machine

/-- Settles O54: the two seedings leave the same engine, which then gives the same outputs (`SameEngine.outputs_eq`). -/
theorem seedDeterminesOutputs : Obligations.SeedDeterminesOutputs := by
  intro i1 i2 s1 s2 t1 t2 v1 v2 hi1 hi2 h1 h2 hpt hp hkey hdInit k
  obtain ⟨hready1, hpt1, hcfg1, hd1, ht1, hb1⟩ := seededFrom_of_completes hi1 h1
  obtain ⟨hready2, hpt2, hcfg2, hd2, ht2, hb2⟩ := seededFrom_of_completes hi2 h2
  refine SameEngine.outputs_eq ⟨hready1, hready2, ?_, hp, ?_, ?_, ht1.trans ht2.symm, hb1.trans hb2.symm⟩ k
  · rw [hpt1, hpt2, hpt]
  · rw [hcfg1, hcfg2, hkey]
  · rw [hd1, hd2, hdInit]

end
